-- ==== Sys2Proof/Word.lean ====
section
/-! DEFINITION. The word types of the EPDC (spec 00 R8): unsigned bytes and 32-bit words. -/

namespace Sys2Proof

/-- `u8` of 00 R8. -/
abbrev Byte := BitVec 8

/-- `u32` of 00 R8: a host register, or a word written to one. -/
abbrev Word := BitVec 32

end Sys2Proof
end

