-- ==== Sys2Proof/Config.lean ====
section
/-! DEFINITION. The configuration record of 00 R4 with the wire command table of 30 R60, the names
that both the configuration and the machine use, and the free values (opaque, without a body). -/

namespace Sys2Proof

/-- The eleven wire command groups of 30 R60. -/
inductive GroupName where
  | swreset
  | dem
  | borderFull
  | borderPartial
  | ducPartial
  | window
  | cursor
  | actFull
  | actPartial
  | sleep
  | force
  deriving DecidableEq, Repr, Inhabited

/-- The refresh mode (10 R25): the register `MODE`, 0 = Full and 1 = Partial. -/
inductive Mode where
  | fullMode
  | partialMode
  deriving DecidableEq, Repr, Inhabited

/-- The states of the refresh state machine (10 R23). The register value 3 never occurs, so it has no constructor. -/
inductive Fsm where
  | idle
  | refreshingFull
  | refreshingPartial
  deriving DecidableEq, Repr, Inhabited

/-- The two kinds of wire frame (30 R58): `C` and `D`. -/
inductive FrameKind where
  | command
  | data
  deriving DecidableEq, Repr, Inhabited

/-- Where a `ROW` takes its bytes (40 R71). -/
inductive RowSrc where
  | fb
  | blank
  deriving DecidableEq, Repr, Inhabited

/-- The two contexts of the sequencer (00 R3). -/
inductive Ctx where
  | fg
  | bg
  deriving DecidableEq, Repr, Inhabited

/-- One choice of the schedule (20 R49): whose step comes next. The panel's three moves are those of
60 R124; `blockReset` is the platform asserting block reset (70 R138). -/
inductive Turn where
  | host
  | fg
  | bg
  | panelRise
  | panelFall
  | panelNone
  | blockReset
  deriving DecidableEq, Repr, Inhabited

/-- One (opcode, payload) pair of a wire command group (30 R60). -/
abbrev CmdPair := Byte × List Byte

/-- `WCFG`, the wire command table (30 R60, 10 R33). -/
structure Wcfg where
  swreset : List CmdPair
  dem : List CmdPair
  borderFull : List CmdPair
  borderPartial : List CmdPair
  ducPartial : List CmdPair
  window : List CmdPair
  cursor : List CmdPair
  actFull : List CmdPair
  actPartial : List CmdPair
  sleep : List CmdPair
  force : List CmdPair
  writeCur : Byte
  writePrev : Byte
  deriving DecidableEq, Repr, Inhabited

/-- The configuration record `cfg` of 00 R4, fixed for the life of an instance, and last the platform's
parameter `HOST_BASE` (20 R47). Pin levels are Booleans (`true` is level 1). No rule depends on
`pollInterval`, `tRstActive`, `tRstRecover` (70 R151), `lut` (10 R34) or `hostBase` (20 R47).
DESIGN CHOICE (safe, log 23): the SPI clock rate, which 70 R151 calls a parameter of 00 R4 and R4's table does
not list, is no field. -/
structure Cfg where
  width : Nat
  height : Nat
  initPartial : Bool
  partialSupported : Bool
  asyncRuntime : Bool
  yieldBatch : Nat
  pollInterval : Nat
  tRstActive : Nat
  tRstRecover : Nat
  csActive : Bool
  dcCmd : Bool
  dcData : Bool
  rstActive : Bool
  busyActive : Bool
  spiMode : Fin 4
  wcfg : Wcfg
  lut : List Byte
  busyGroups : List GroupName
  panelLateBusy : Bool
  hostBase : Nat
  deriving DecidableEq, Repr, Inhabited

/-- The configuration of the instance: the OPEN parameters of 00 R4 and 20 R47, not known to be well formed
(an ill-formed one is refused with no step, 00 R6).
DESIGN CHOICE (safe, log 5): no body, so nothing can be proved of a value of it. -/
opaque Config.cfg : Cfg

/-- The choice among enabled agents (20 R49, 93 I33), used where `State.env.turns` gives none.
DESIGN CHOICE (safe, log 2): a free value. -/
opaque Config.turn : Nat → Turn

/-- The answers of the Boolean draws `bus_ok`, `busy_now`, `busy_asleep` and of the unspecified reset
levels (60 R122, R124, 10 R38), used where `State.env.answers` gives none.
DESIGN CHOICE (safe, log 3): a free value. -/
opaque Config.answer : Nat → Bool

/-- The byte that frame-buffer address `a` holds while nothing has written it since the `era`-th
draw of the buffer (10 R38, 40 R80; 93 I9, I10), as `Config.fbByte era a`.
DESIGN CHOICE (safe, log 4): a free value. -/
opaque Config.fbByte : Nat → Nat → Byte

end Sys2Proof
end

