-- ==== Sys2Proof/Machine/Geometry.lean ====
section
/-! DEFINITION. What the rules derive from a configuration: the geometry of the frame buffer (00 R5,
20 R40), the lookup of a wire command group (30 R60), well-formedness (00 R6), and the instance's
own configuration. -/

namespace Sys2Proof

/-- Bytes per row, `STRIDE = (WIDTH + 7) >> 3` (00 R5). -/
def Cfg.stride (c : Cfg) : Nat := (c.width + 7) / 8

/-- `FB_SIZE = HEIGHT * STRIDE` (00 R5). -/
def Cfg.fbSize (c : Cfg) : Nat := c.height * c.stride

/-- `PAD = STRIDE*8 - WIDTH`, the padding bits at the low end of each row's last byte (00 R5, 20 R41). -/
def Cfg.pad (c : Cfg) : Nat := c.stride * 8 - c.width

/-- The address of the byte that holds pixel (x, y) (20 R40). -/
def Cfg.pixelAddr (c : Cfg) (x y : Nat) : Nat := y * c.stride + x / 8

/-- The bit of that byte which is the pixel (20 R40): column 0 of a byte is bit 7. -/
def pixelBit (x : Nat) : Nat := 7 - x % 8

/-- Row `r` exists, `0 <= r < HEIGHT` (40 R71). Row 0 exists on every panel, since `HEIGHT >= 1` (00 R6 WF1). -/
def rowExists (height : Nat) : Nat → Bool
  | 0 => true
  | r + 1 => r + 1 < height

/-- The idle level of `SCLK` (10 R35). PRESUMED (unsafe, log 9): modes 0 and 1 of SPI rest low, 2 and 3 high. -/
def Cfg.sclkIdle (c : Cfg) : Bool := decide (2 ≤ c.spiMode.val)

/-- The pairs of a group (30 R60). -/
def Wcfg.group (w : Wcfg) : GroupName → List CmdPair
  | .swreset => w.swreset
  | .dem => w.dem
  | .borderFull => w.borderFull
  | .borderPartial => w.borderPartial
  | .ducPartial => w.ducPartial
  | .window => w.window
  | .cursor => w.cursor
  | .actFull => w.actFull
  | .actPartial => w.actPartial
  | .sleep => w.sleep
  | .force => w.force

/-- The groups that WF6 of 00 R6 wants to be non-empty: all but `FORCE`. -/
def requiredGroups : List GroupName :=
  [.swreset, .dem, .borderFull, .borderPartial, .ducPartial, .window, .cursor, .actFull, .actPartial, .sleep]

/-- A configuration is well formed (00 R6: WF1 to WF6; WF7 holds by type). -/
def Cfg.wf (c : Cfg) : Bool :=
  (1 ≤ c.width && c.width ≤ 65535 && 1 ≤ c.height && c.height ≤ 65535)
  && (1 ≤ c.yieldBatch && c.yieldBatch ≤ c.height)
  && !(c.initPartial && !c.partialSupported)
  && c.wcfg.borderFull != c.wcfg.borderPartial
  && c.wcfg.writeCur != c.wcfg.writePrev
  && requiredGroups.all fun g => !(c.wcfg.group g).isEmpty

/-- The configuration with the fields that `Cfg.wf` reads set to the least well-formed ones, and every other
field kept. No step uses it: it is for the placing of an instruction in an instance whose own
configuration is unknown (`State.withFetchWord`, log 11). -/
def Cfg.madeWellFormed (c : Cfg) : Cfg :=
  { c with
    width := 1
    height := 1
    yieldBatch := 1
    initPartial := false
    wcfg :=
      { swreset := [(0, [])], dem := [(0, [])], borderFull := [(0, [])], borderPartial := [(1, [])],
        ducPartial := [(0, [])], window := [(0, [])], cursor := [(0, [])], actFull := [(0, [])],
        actPartial := [(0, [])], sleep := [(0, [])], force := [], writeCur := 0, writePrev := 1 } }

/-- The address on the host's bus of an offset of the register window (20 R47). No rule depends on it: a
host access names its offset (20 R43). -/
def Cfg.busAddress (c : Cfg) (offset : Word) : Nat := c.hostBase + offset.toNat

end Sys2Proof
end

