-- ==== Sys2Proof/MicroOp.lean ====
section
/-! DEFINITION. The sequencer's micro-ops (30 R62) as a type of their own: the programs of the
contexts (10 R28, R29) are lists of these. `Instr` has one constructor for each of them. -/

namespace Sys2Proof

/-- One (field, value) pair of a `SET` (40 R79, 30 R62). -/
inductive Assign where
  | fsm (v : Fsm)
  | mode (v : Mode)
  | updated (v : Bool)
  | complete (v : Bool)
  | monAsleep (v : Bool)
  | monFullCfgValid (v : Bool)
  deriving DecidableEq, Repr, Inhabited

/-- A micro-op (30 R62). `DATA` holds a first byte and the rest, so its list is never empty (40 R70). -/
inductive MicroOp where
  | endProg
  | cmd (op : Byte) (bi : Bool)
  | data (b : Byte) (bs : List Byte) (bi : Bool)
  | row (src : RowSrc) (r : Nat)
  | rstp
  | waitr
  | waitry
  | yieldPoint
  | assign (pairs : List Assign)
  | havocFb
  deriving DecidableEq, Repr, Inhabited

end Sys2Proof
end

