-- ==== Sys2Proof/Syntax.lean ====
section
/-! DEFINITION. `Instr`: one constructor for each row of spec/opcode_table.json. The host operations
take their operands from `ARG0..ARG2` (30 R57), so they have none of their own. -/

namespace Sys2Proof

/-- The rows of spec/opcode_table.json, in the table's order. What it means to execute a row of each
of the four formats is said in log 1. -/
inductive Instr where
  -- host operations (30 R56)
  | initFull
  | selectFull
  | selectPartial
  | showRefresh
  | clear
  | sleep
  | reset
  | waitReady
  | setPixel
  | getPixel
  | fill
  | readByte
  | writeByte
  -- reserved CMD words (60 R121)
  | reservedOp0
  | reservedOpE
  | reservedOpF
  | reservedHighBits (hi : BitVec 28) (op : BitVec 4)
  -- micro-ops (30 R62)
  | uopEnd
  | uopCmd (op : Byte) (bi : Bool)
  | uopData (b : Byte) (bs : List Byte) (bi : Bool)
  | uopRow (src : RowSrc) (r : Nat)
  | uopRstp
  | uopWaitr
  | uopWaitry
  | uopYield
  | uopSet (pairs : List Assign)
  | uopHavocFb
  -- wire frames (30 R58)
  | wireCommandFrame (op : Byte)
  | wireDataFrame (b : Byte) (bs : List Byte)
  -- wire command groups (30 R60)
  | wireSwreset
  | wireDem
  | wireBorderFull
  | wireBorderPartial
  | wireDucPartial
  | wireWindow
  | wireCursor
  | wireActFull
  | wireActPartial
  | wireSleep
  | wireForce
  | wireWriteCur (src : RowSrc)
  | wireWritePrev (src : RowSrc)
  deriving DecidableEq, Repr, Inhabited

end Sys2Proof
end

