-- ==== Sys2Proof/WellFormed.lean ====
section
/-! DEFINITION. Which instructions are well formed: the operand conditions that the spec puts on a
row of the table, checked once here. -/

namespace Sys2Proof

/-- The field that a pair of a `SET` names, numbered in the order of 30 R62. -/
def Assign.field : Assign → Nat
  | .fsm _ => 0
  | .mode _ => 1
  | .updated _ => 2
  | .complete _ => 3
  | .monAsleep _ => 4
  | .monFullCfgValid _ => 5

/-- "A field is listed at most once in a `SET`" (40 R79). -/
def assignsDistinct (ps : List Assign) : Bool := decide (ps.map Assign.field).Nodup

/-- The conditions on a micro-op of a program: its row exists (40 R71), its `SET` is one (40 R79). -/
def MicroOp.wellFormed (c : Cfg) : MicroOp → Bool
  | .row _ r => r < c.height
  | .assign ps => assignsDistinct ps
  | .endProg | .cmd _ _ | .data _ _ _ | .rstp | .waitr | .waitry | .yieldPoint | .havocFb => true

/-- The conditions on an instruction: those of its micro-op, and `CMD[31:4] != 0` for the row of the
reserved high bits (30 R65). Every other row takes every operand. -/
def Instr.wellFormed (c : Cfg) : Instr → Bool
  | .reservedHighBits hi _ => hi != 0
  | .uopRow _ r => r < c.height
  | .uopSet ps => assignsDistinct ps
  | .initFull | .selectFull | .selectPartial | .showRefresh | .clear | .sleep | .reset | .waitReady
  | .setPixel | .getPixel | .fill | .readByte | .writeByte
  | .reservedOp0 | .reservedOpE | .reservedOpF
  | .uopEnd | .uopCmd _ _ | .uopData _ _ _ | .uopRstp | .uopWaitr | .uopWaitry | .uopYield | .uopHavocFb
  | .wireCommandFrame _ | .wireDataFrame _ _
  | .wireSwreset | .wireDem | .wireBorderFull | .wireBorderPartial | .wireDucPartial | .wireWindow
  | .wireCursor | .wireActFull | .wireActPartial | .wireSleep | .wireForce
  | .wireWriteCur _ | .wireWritePrev _ => true

end Sys2Proof
end

