-- ==== Sys2Proof/Decode.lean ====
section
/-! DEFINITION. The decoder, total on any bytes, and after it the encoder. The spec has separate
encoding spaces: the host command word (30 R55, R56), the micro-op codes (30 R62), the wire frames
(30 R58). Operand bytes of micro-ops and the group numbers are the model's own (DESIGN CHOICE, log 7). -/

namespace Sys2Proof

/-- Which encoding a byte list is written in. For a wire frame the kind is the level of `DC` while
`CS` is active (30 R59), so it is no byte of the frame. -/
inductive Space where
  | hostWord
  | microOp
  | wireFrame (kind : FrameKind)
  | wireGroup
  deriving DecidableEq, Repr, Inhabited

/-- Why bytes are no instruction. -/
inductive DecodeError where
  | truncated
  | unknownMicroOp
  | unknownGroup
  | badFlag
  | badField
  | badValue
  | emptyFrame
  | commandFrameTooLong
  deriving DecidableEq, Repr, Inhabited

/-- The result of decoding: an instruction and the bytes after it, or the reason there is none. -/
abbrev Decoded := Except DecodeError (Instr × List Byte)

/-- The host operation of a `CMD` word: `OP = CMD[3:0]`, `CMD[31:4]` reserved (30 R55, R56, R65). -/
def decodeHostWord (w : Word) : Instr :=
  if w.extractLsb' 4 28 = 0#28 then
    match (w.extractLsb' 0 4).toNat with
    | 0x1 => .initFull
    | 0x2 => .selectFull
    | 0x3 => .selectPartial
    | 0x4 => .showRefresh
    | 0x5 => .clear
    | 0x6 => .sleep
    | 0x7 => .reset
    | 0x8 => .waitReady
    | 0x9 => .setPixel
    | 0xA => .getPixel
    | 0xB => .fill
    | 0xC => .readByte
    | 0xD => .writeByte
    | 0xE => .reservedOpE
    | 0xF => .reservedOpF
    | _ => .reservedOp0
  else .reservedHighBits (w.extractLsb' 4 28) (w.extractLsb' 0 4)

/-- A flag byte: 0 or 1. -/
def decodeFlag (b : Byte) : Except DecodeError Bool :=
  if b = 0#8 then .ok false else if b = 1#8 then .ok true else .error .badFlag

/-- The operand of a `ROW` or of a register group: where the rows come from. -/
def decodeSrc (b : Byte) : Except DecodeError RowSrc :=
  if b = 0#8 then .ok .fb else if b = 1#8 then .ok .blank else .error .badValue

/-- A non-empty byte list, each byte after a flag that says whether another follows. -/
def decodeByteList : List Byte → Except DecodeError ((Byte × List Byte) × List Byte)
  | more :: b :: rest =>
    if more = 0#8 then .ok ((b, []), rest)
    else if more = 1#8 then
      match decodeByteList rest with
      | .ok ((b', bs), rest') => .ok ((b, b' :: bs), rest')
      | .error e => .error e
    else .error .badFlag
  | _ => .error .truncated

/-- One pair of a `SET` from its field number (1 to 6, in the order of 30 R62) and its value byte
(for `FSM` and `MODE` the register codes of 10 R23 and R25). -/
def decodeAssign (field value : Byte) : Except DecodeError Assign :=
  match field.toNat, value.toNat with
  | 1, 0 => .ok (.fsm .idle)
  | 1, 1 => .ok (.fsm .refreshingFull)
  | 1, 2 => .ok (.fsm .refreshingPartial)
  | 2, 0 => .ok (.mode .fullMode)
  | 2, 1 => .ok (.mode .partialMode)
  | 3, 0 => .ok (.updated false)
  | 3, 1 => .ok (.updated true)
  | 4, 0 => .ok (.complete false)
  | 4, 1 => .ok (.complete true)
  | 5, 0 => .ok (.monAsleep false)
  | 5, 1 => .ok (.monAsleep true)
  | 6, 0 => .ok (.monFullCfgValid false)
  | 6, 1 => .ok (.monFullCfgValid true)
  | f, _ => .error (if 1 ≤ f ∧ f ≤ 6 then .badValue else .badField)

/-- The pairs of a `SET`, ended by field number 0. -/
def decodeAssigns : List Byte → Except DecodeError (List Assign × List Byte)
  | [] => .error .truncated
  | [f] => if f = 0#8 then .ok ([], []) else .error .truncated
  | f :: v :: rest =>
    if f = 0#8 then .ok ([], v :: rest)
    else
      match decodeAssign f v, decodeAssigns rest with
      | .ok a, .ok (as, rest') => .ok (a :: as, rest')
      | .error e, _ => .error e
      | _, .error e => .error e

/-- A micro-op: its code (30 R62) in the first byte, then its operands. -/
def decodeMicroOp : List Byte → Decoded
  | [] => .error .truncated
  | code :: rest =>
    match code.toNat, rest with
    | 0x0, _ => .ok (.uopEnd, rest)
    | 0x1, op :: bi :: rest' => (decodeFlag bi).map fun f => (.uopCmd op f, rest')
    | 0x1, _ => .error .truncated
    | 0x2, bi :: rest' =>
      match decodeFlag bi, decodeByteList rest' with
      | .ok f, .ok ((b, bs), rest'') => .ok (.uopData b bs f, rest'')
      | .error e, _ => .error e
      | _, .error e => .error e
    | 0x2, _ => .error .truncated
    | 0x3, src :: lo :: hi :: rest' =>
      (decodeSrc src).map fun s => (.uopRow s (hi.toNat * 256 + lo.toNat), rest')
    | 0x3, _ => .error .truncated
    | 0x4, _ => .ok (.uopRstp, rest)
    | 0x5, _ => .ok (.uopWaitr, rest)
    | 0x6, _ => .ok (.uopWaitry, rest)
    | 0x7, _ => .ok (.uopYield, rest)
    | 0x8, _ => (decodeAssigns rest).map fun p => (.uopSet p.1, p.2)
    | 0x9, _ => .ok (.uopHavocFb, rest)
    | _, _ => .error .unknownMicroOp

/-- A whole wire frame: a command frame is exactly one byte, a data frame one or more (30 R58, R59). -/
def decodeFrame (kind : FrameKind) (bytes : List Byte) : Decoded :=
  match kind, bytes with
  | _, [] => .error .emptyFrame
  | .command, [op] => .ok (.wireCommandFrame op, [])
  | .command, _ :: _ :: _ => .error .commandFrameTooLong
  | .data, b :: bs => .ok (.wireDataFrame b bs, [])

/-- A wire command group by its number, the row order of 30 R60's table. -/
def decodeGroup : List Byte → Decoded
  | [] => .error .truncated
  | n :: rest =>
    match n.toNat, rest with
    | 0, _ => .ok (.wireSwreset, rest)
    | 1, _ => .ok (.wireDem, rest)
    | 2, _ => .ok (.wireBorderFull, rest)
    | 3, _ => .ok (.wireBorderPartial, rest)
    | 4, _ => .ok (.wireDucPartial, rest)
    | 5, _ => .ok (.wireWindow, rest)
    | 6, _ => .ok (.wireCursor, rest)
    | 7, _ => .ok (.wireActFull, rest)
    | 8, _ => .ok (.wireActPartial, rest)
    | 9, _ => .ok (.wireSleep, rest)
    | 10, _ => .ok (.wireForce, rest)
    | 11, src :: rest' => (decodeSrc src).map fun s => (.wireWriteCur s, rest')
    | 12, src :: rest' => (decodeSrc src).map fun s => (.wireWritePrev s, rest')
    | 11, [] => .error .truncated
    | 12, [] => .error .truncated
    | _, _ => .error .unknownGroup

/-- The decoder. A host word's bytes come lowest first (DESIGN CHOICE, log 8: 20 R42 says that the
window's byte order cannot be observed). -/
def decode (sp : Space) (bytes : List Byte) : Decoded :=
  match sp with
  | .hostWord =>
    match bytes with
    | b0 :: b1 :: b2 :: b3 :: rest => .ok (decodeHostWord (b3 ++ b2 ++ b1 ++ b0), rest)
    | _ => .error .truncated
  | .microOp => decodeMicroOp bytes
  | .wireFrame kind => decodeFrame kind bytes
  | .wireGroup => decodeGroup bytes

/-- The `CMD` word of a host operation (30 R56), or of a reserved row. -/
def hostWordBytes (hi : BitVec 28) (op : BitVec 4) : Space × List Byte :=
  let w : Word := hi ++ op
  (.hostWord, [w.extractLsb' 0 8, w.extractLsb' 8 8, w.extractLsb' 16 8, w.extractLsb' 24 8])

/-- A flag as a byte. -/
def encodeFlag (b : Bool) : Byte := if b then 1 else 0

/-- A row source as a byte. -/
def encodeSrc : RowSrc → Byte
  | .fb => 0
  | .blank => 1

/-- A non-empty byte list with its flags. -/
def encodeByteList (b : Byte) : List Byte → List Byte
  | [] => [0, b]
  | b' :: bs => 1 :: b :: encodeByteList b' bs

/-- One pair of a `SET` as its two bytes. -/
def encodeAssign : Assign → List Byte
  | .fsm .idle => [1, 0]
  | .fsm .refreshingFull => [1, 1]
  | .fsm .refreshingPartial => [1, 2]
  | .mode .fullMode => [2, 0]
  | .mode .partialMode => [2, 1]
  | .updated v => [3, encodeFlag v]
  | .complete v => [4, encodeFlag v]
  | .monAsleep v => [5, encodeFlag v]
  | .monFullCfgValid v => [6, encodeFlag v]

/-- The pairs of a `SET`, ended by 0. -/
def encodeAssigns : List Assign → List Byte
  | [] => [0]
  | a :: as => encodeAssign a ++ encodeAssigns as

/-- The encoder: the space of an instruction and its bytes there. -/
def encode : Instr → Space × List Byte
  | .initFull => hostWordBytes 0 0x1
  | .selectFull => hostWordBytes 0 0x2
  | .selectPartial => hostWordBytes 0 0x3
  | .showRefresh => hostWordBytes 0 0x4
  | .clear => hostWordBytes 0 0x5
  | .sleep => hostWordBytes 0 0x6
  | .reset => hostWordBytes 0 0x7
  | .waitReady => hostWordBytes 0 0x8
  | .setPixel => hostWordBytes 0 0x9
  | .getPixel => hostWordBytes 0 0xA
  | .fill => hostWordBytes 0 0xB
  | .readByte => hostWordBytes 0 0xC
  | .writeByte => hostWordBytes 0 0xD
  | .reservedOp0 => hostWordBytes 0 0x0
  | .reservedOpE => hostWordBytes 0 0xE
  | .reservedOpF => hostWordBytes 0 0xF
  | .reservedHighBits hi op => hostWordBytes hi op
  | .uopEnd => (.microOp, [0x0])
  | .uopCmd op bi => (.microOp, [0x1, op, encodeFlag bi])
  | .uopData b bs bi => (.microOp, 0x2 :: encodeFlag bi :: encodeByteList b bs)
  | .uopRow src r => (.microOp, [0x3, encodeSrc src, BitVec.ofNat 8 r, BitVec.ofNat 8 (r / 256)])
  | .uopRstp => (.microOp, [0x4])
  | .uopWaitr => (.microOp, [0x5])
  | .uopWaitry => (.microOp, [0x6])
  | .uopYield => (.microOp, [0x7])
  | .uopSet ps => (.microOp, 0x8 :: encodeAssigns ps)
  | .uopHavocFb => (.microOp, [0x9])
  | .wireCommandFrame op => (.wireFrame .command, [op])
  | .wireDataFrame b bs => (.wireFrame .data, b :: bs)
  | .wireSwreset => (.wireGroup, [0])
  | .wireDem => (.wireGroup, [1])
  | .wireBorderFull => (.wireGroup, [2])
  | .wireBorderPartial => (.wireGroup, [3])
  | .wireDucPartial => (.wireGroup, [4])
  | .wireWindow => (.wireGroup, [5])
  | .wireCursor => (.wireGroup, [6])
  | .wireActFull => (.wireGroup, [7])
  | .wireActPartial => (.wireGroup, [8])
  | .wireSleep => (.wireGroup, [9])
  | .wireForce => (.wireGroup, [10])
  | .wireWriteCur src => (.wireGroup, [11, encodeSrc src])
  | .wireWritePrev src => (.wireGroup, [12, encodeSrc src])

/-- The instruction that a micro-op of a program is. -/
def MicroOp.toInstr : MicroOp → Instr
  | .endProg => .uopEnd
  | .cmd op bi => .uopCmd op bi
  | .data b bs bi => .uopData b bs bi
  | .row src r => .uopRow src r
  | .rstp => .uopRstp
  | .waitr => .uopWaitr
  | .waitry => .uopWaitry
  | .yieldPoint => .uopYield
  | .assign ps => .uopSet ps
  | .havocFb => .uopHavocFb

/-- The micro-op that an instruction is, if it is one. -/
def Instr.toMicroOp : Instr → Option MicroOp
  | .uopEnd => some .endProg
  | .uopCmd op bi => some (.cmd op bi)
  | .uopData b bs bi => some (.data b bs bi)
  | .uopRow src r => some (.row src r)
  | .uopRstp => some .rstp
  | .uopWaitr => some .waitr
  | .uopWaitry => some .waitry
  | .uopYield => some .yieldPoint
  | .uopSet ps => some (.assign ps)
  | .uopHavocFb => some .havocFb
  | .initFull | .selectFull | .selectPartial | .showRefresh | .clear | .sleep | .reset | .waitReady
  | .setPixel | .getPixel | .fill | .readByte | .writeByte
  | .reservedOp0 | .reservedOpE | .reservedOpF | .reservedHighBits _ _
  | .wireCommandFrame _ | .wireDataFrame _ _
  | .wireSwreset | .wireDem | .wireBorderFull | .wireBorderPartial | .wireDucPartial | .wireWindow
  | .wireCursor | .wireActFull | .wireActPartial | .wireSleep | .wireForce
  | .wireWriteCur _ | .wireWritePrev _ => none

/-- The first `n` bytes of a table word, lowest first (spec/opcode_table.json numbers bit 0 as the least
significant), followed by zero bytes for the operands that the table gives no bits. -/
def tableBytes (nbits w : Nat) : List Byte :=
  (List.range ((nbits + 7) / 8)).map (fun k => BitVec.ofNat 8 (w / 256 ^ k)) ++ List.replicate 8 0#8

/-- The space of a table row by its width: micro-op codes have 4 bits (one byte), host words 32. -/
def tableSpace (nbits : Nat) : Space := if nbits ≤ 8 then .microOp else .hostWord

/-- The instruction that the decoder reads from a table word. -/
def decodeTableWord (nbits w : Nat) : Option Instr :=
  match decode (tableSpace nbits) (tableBytes nbits w) with
  | .ok (i, _) => some i
  | .error _ => none

end Sys2Proof
end

