-- ==== Sys2Proof/Machine/Programs.lean ====
section
/-! DEFINITION. The program builders of the sequencer (00 R11): the expansion of a wire command
group (40 R73), the row loop (40 R74), and the program of every operation (41, 42). -/

namespace Sys2Proof

/-- The frames of one pair: a command frame, and a data frame if there is a payload. The last frame
carries `bi` (40 R69, R73). -/
def pairOps (bi : Bool) (p : CmdPair) : List MicroOp :=
  match p.2 with
  | [] => [.cmd p.1 bi]
  | b :: bs => [.cmd p.1 false, .data b bs bi]

/-- The frames of a group's pairs in list order; only the last pair's last frame carries `bi` (40 R73). -/
def groupOps (bi : Bool) : List CmdPair → List MicroOp
  | [] => []
  | [p] => pairOps bi p
  | p :: q :: ps => pairOps false p ++ groupOps bi (q :: ps)

/-- `G(name)` (40 R73). -/
def Cfg.group (c : Cfg) (g : GroupName) : List MicroOp := groupOps (c.busyGroups.contains g) (c.wcfg.group g)

/-- One row of the row loop: in BG a `YIELD` follows every `YIELD_BATCH`-th row (40 R74). -/
def Cfg.rowOps (c : Cfg) (src : RowSrc) (ctx : Ctx) (r : Nat) : List MicroOp :=
  if ctx = .bg ∧ (r + 1) % c.yieldBatch = 0 then [.row src r, .yieldPoint] else [.row src r]

/-- `ROWS(reg, src, ctx)` (40 R74). -/
def Cfg.rows (c : Cfg) (reg : Byte) (src : RowSrc) (ctx : Ctx) : List MicroOp :=
  .cmd reg false :: (List.range c.height).flatMap (c.rowOps src ctx)

/-- `P_INIT(f)` without its `END` (41 R85). -/
def Cfg.initBody (c : Cfg) (f : Bool) : List MicroOp :=
  [.rstp, .waitr] ++ c.group .swreset ++ [.waitr]
    ++ c.group .dem ++ c.group .borderFull
    ++ c.group .window ++ c.group .cursor
    ++ (if f then c.group .force else [])
    ++ [.waitr] ++ [.assign [.mode .fullMode, .monFullCfgValid true]]

/-- `P_INIT(f)` (41 R85). -/
def Cfg.pInit (c : Cfg) (f : Bool) : List MicroOp := c.initBody f ++ [.endProg]

/-- `P_FULL_BLK` (41 R89). -/
def Cfg.pFullBlk (c : Cfg) : List MicroOp :=
  c.rows c.wcfg.writeCur .fb .fg ++ c.rows c.wcfg.writePrev .fb .fg
    ++ c.group .actFull ++ [.waitr] ++ [.assign [.fsm .idle], .endProg]

/-- `P_FULL_ASYNC` (42 R102). -/
def Cfg.pFullAsync (c : Cfg) : List MicroOp :=
  c.rows c.wcfg.writeCur .fb .bg ++ c.rows c.wcfg.writePrev .fb .bg
    ++ c.group .actFull ++ [.assign [.updated true]] ++ [.waitry]
    ++ [.assign [.fsm .idle, .complete true]] ++ [.endProg]

/-- `P_PART` (41 R91). -/
def Cfg.pPart (c : Cfg) : List MicroOp :=
  c.group .borderPartial ++ c.group .ducPartial ++ c.group .window ++ c.group .cursor
    ++ c.rows c.wcfg.writeCur .fb .fg ++ c.group .actPartial ++ [.waitr]
    ++ [.assign [.fsm .idle], .endProg]

/-- The two blank passes and the draw of the buffer, common to `CLEAR` and construction (41 R95, R98). -/
def Cfg.clearBody (c : Cfg) : List MicroOp :=
  c.rows c.wcfg.writeCur .blank .fg ++ c.rows c.wcfg.writePrev .blank .fg ++ [.havocFb]

/-- `P_CLEAR` (41 R95). -/
def Cfg.pClear (c : Cfg) : List MicroOp := c.clearBody ++ [.endProg]

/-- `P_SLEEP` (41 R96). -/
def Cfg.pSleep (c : Cfg) : List MicroOp :=
  c.group .sleep ++ [.assign [.monAsleep true, .monFullCfgValid false], .endProg]

/-- `P_RESET` (41 R97). -/
def pReset : List MicroOp := [.rstp, .waitr, .endProg]

/-- `P_WAIT` (42 R100). -/
def pWait : List MicroOp := [.waitr, .endProg]

/-- The mode that construction ends in (41 R98, 90 C3). -/
def Cfg.initialMode (c : Cfg) : Mode := if c.initPartial then .partialMode else .fullMode

/-- `P_CONSTRUCT` (41 R98). -/
def Cfg.pConstruct (c : Cfg) : List MicroOp :=
  c.initBody false ++ c.clearBody ++ c.group .actFull ++ [.waitr]
    ++ [.assign [.mode c.initialMode], .endProg]

end Sys2Proof
end

