-- ==== Sys2Proof/Machine/State.lean ====
section
/-! DEFINITION. The state of the machine, in the order of 10 R13, with the reasons a step can stop and
the state right after reset (10 R38, 70 R138). -/

namespace Sys2Proof.Machine

/-- The values of `RESULT_CODE` (10 R27); the codes 5 to 7 are never written, so they have no constructor. -/
inductive ResultCode where
  | ok
  | busy
  | unsupported
  | transport
  | faulted
  deriving DecidableEq, Repr, Inhabited

/-- `fg_op` (10 R28) and the operation of a `HostOp` event: a 4-bit `OP`, or `CONSTRUCT`. -/
inductive OpId where
  | host (op : BitVec 4)
  | construct
  deriving DecidableEq, Repr, Inhabited

/-- The events of the trace (00 R12). -/
inductive Event where
  | frame (kind : FrameKind) (bytes : List Byte)
  | frameFailed (kind : FrameKind) (bytes : List Byte)
  | resetPulse
  | sample (busy : Bool)
  | hostOp (op : OpId) (result : ResultCode)
  deriving DecidableEq, Repr, Inhabited

/-- One access of the host to the register window (20 R43, 60 R135): `size` is its width in bytes and
`offset` is counted from the window's base. `poll bit want` is the loop over `RD STATUS` of 30 R64
that ends when bit `bit` reads `want`. -/
inductive Access where
  | read (size : Nat) (offset : Word)
  | write (size : Nat) (offset value : Word)
  | poll (bit : Nat) (want : Bool)
  deriving DecidableEq, Repr, Inhabited

/-- The frame buffer's written bytes: (address, byte) pairs with strictly rising addresses. An
address that is not listed has been written by nothing since the last draw of the buffer (log 4). -/
abbrev Memory := List Host.Cell

/-- The stored host registers (10 R16, R18, R19). `CMD` stores nothing; `STATUS`, `GEOM` and `CONFIG` are
views (Machine/Flags.lean). -/
structure Regs where
  arg0 : Word
  arg1 : Word
  arg2 : Word
  result : Word
  fault : Word
  deriving DecidableEq, Repr, Inhabited

/-- The refresh state machine registers (10 R23 to R27). -/
structure Refresh where
  fsm : Fsm
  mode : Mode
  updated : Bool
  complete : Bool
  resultCode : ResultCode
  deriving DecidableEq, Repr, Inhabited

/-- The foreground context (10 R28). -/
structure Foreground where
  active : Bool
  op : OpId
  prog : List MicroOp
  pc : Nat
  deriving DecidableEq, Repr, Inhabited

/-- The background context (10 R29). -/
structure Background where
  active : Bool
  prog : List MicroOp
  pc : Nat
  inSegment : Bool
  err : Bool
  deriving DecidableEq, Repr, Inhabited

/-- The output pins' levels (10 R35); the input `BUSY_IN` is a view of the panel. -/
structure Pins where
  cs : Bool
  dc : Bool
  rst : Bool
  sclk : Bool
  mosi : Bool
  deriving DecidableEq, Repr, Inhabited

/-- The model-only monitor (10 R36). `fault` is `MON_FAULT`: bits `M_ASLEEP`, `M_NOINIT`, `M_PANEL_BUSY`. -/
structure Monitor where
  asleep : Bool
  fullCfgValid : Bool
  fault : BitVec 3
  deriving DecidableEq, Repr, Inhabited

/-- The panel environment (10 R37). -/
structure Panel where
  pbusy : Bool
  ppend : Bool
  deriving DecidableEq, Repr, Inhabited

/-- The MODEL's own state for what is outside the block: the host's accesses still to come and the
value its last read got back (60 R135), the schedule (20 R49), the answers of the draws (00 R10).
Where `turns` or `answers` is empty, the opaque streams of Config are read at `draws` (log 2, 3, 10). -/
structure Env where
  host : List Access
  rdata : Word
  turns : List Turn
  answers : List Bool
  draws : Nat
  deriving DecidableEq, Repr, Inhabited

/-- The complete state (10 R13): the host registers, the refresh state machine, the two contexts, the
frame buffer, the constant stores (in `cfg`), the pins, the model-only state (monitor, panel,
trace). The last fields are the model's own (log 1, 4, 19): `fbEra` counts the draws of the frame buffer, `ctx`
is the context executing (00 R10), `env` is the outside. -/
structure State where
  cfg : Cfg
  regs : Regs
  refresh : Refresh
  fg : Foreground
  bg : Background
  fb : Memory
  fbEra : Nat
  pins : Pins
  mon : Monitor
  panel : Panel
  trace : List Event
  ctx : Ctx
  env : Env
  deriving DecidableEq, Repr, Inhabited

/-- The reasons for which the MODEL stops with a fault. The faults of 60 R120 and R123 are sticky bits,
and the machine goes on: they are no constructors here. -/
inductive Fault where
  /-- Raised by `uopRow` for a frame-buffer row that does not exist (40 R71 gives `0 <= r < HEIGHT`): its addresses are
  outside the frame-buffer space. Safe; no program of the machine holds one (log 13). -/
  | rowOutOfRange (r : Nat)
  /-- Raised by a context's step when its pc is outside its program, which 10 R30 says cannot happen.
  Safe; not reached from reset (log 13). -/
  | pcOutsideProgram (ctx : Ctx)
  deriving DecidableEq, Repr, Inhabited

/-- The reasons for which the model has no meaning. -/
inductive Refusal where
  /-- Raised by `exec`'s arms of instructions without a meaning yet (none is left). Safe. -/
  | notModelled (mnemonic : String)
  /-- Raised by `step` while the host's program holds an access that is no whole aligned word (20 R43,
  60 R118: the refusal is for the whole run). Safe. -/
  | hostAccessNotWholeWord
  /-- Raised by every `step` of an instance whose configuration is ill formed, so that it takes none (00 R6,
  60 R118). Safe. -/
  | illFormedConfiguration
  deriving DecidableEq, Repr, Inhabited

/-- The outcome of a step or of a meaning. -/
abbrev Result := Host.Outcome State Fault Refusal

/-- The state that block reset leaves (10 R38, 70 R138). The table's unspecified elements are arguments:
`pbusy`, the levels of `DC` and `MOSI`, and the era of the frame buffer's unwritten bytes. The
outside (`env`) is not reset (log 15). -/
def State.atReset (c : Cfg) (pbusy dc mosi : Bool) (era : Nat) (env : Env) : State where
  cfg := c
  regs := { arg0 := 0, arg1 := 0, arg2 := 0, result := 0, fault := 0 }
  refresh := { fsm := .idle, mode := .fullMode, updated := false, complete := false, resultCode := .ok }
  fg := { active := true, op := .construct, prog := c.pConstruct, pc := 0 }
  -- DESIGN CHOICE (unsafe, log 16): `bg_prog` and `bg_pc` have no reset value in the spec
  bg := { active := false, prog := [], pc := 0, inSegment := false, err := false }
  fb := []
  fbEra := era
  pins := { cs := !c.csActive, dc := dc, rst := !c.rstActive, sclk := c.sclkIdle, mosi := mosi }
  mon := { asleep := false, fullCfgValid := false, fault := 0 }
  panel := { pbusy := pbusy, ppend := false }
  trace := []
  ctx := .fg
  env := env

/-- The machine right after reset: nothing placed, the unspecified levels drawn from the free stream. -/
def State.reset : State :=
  State.atReset Config.cfg (Config.answer 0) (Config.answer 1) (Config.answer 2) 0
    { host := [], rdata := 0, turns := [], answers := [], draws := 3 }

end Sys2Proof.Machine
end

