-- ==== Sys2Proof/Machine/Wire.lean ====
section
/-! DEFINITION. The pin level (40 R66, R75): what one frame and one reset pulse do to the output pins, as
the list of pin levels they drive in order, and the receiver of 30 R59 that reads a frame back. -/

namespace Sys2Proof.Machine

/-- The level of `DC` for a frame kind (30 R58). -/
def dcLevel (c : Cfg) : FrameKind → Bool
  | .command => c.dcCmd
  | .data => c.dcData

/-- One bit on the wire: `MOSI` takes it, then one clock of `SCLK` (40 R66). -/
def bitWave (c : Cfg) (p : Pins) (b : Bool) : List Pins :=
  [{ p with mosi := b }, { p with mosi := b, sclk := !c.sclkIdle }, { p with mosi := b, sclk := c.sclkIdle }]

/-- The bits of a byte in wire order, most significant first (20 R42). -/
def byteBits (b : Byte) : List Bool :=
  [b.getLsbD 7, b.getLsbD 6, b.getLsbD 5, b.getLsbD 4, b.getLsbD 3, b.getLsbD 2, b.getLsbD 1, b.getLsbD 0]

/-- The bits of a byte list in wire order: list order, each byte most significant bit first. -/
def wireBits (bytes : List Byte) : List Bool := bytes.flatMap byteBits

/-- The levels that the pins take, in order, during one frame (40 R66): `DC`, then `CS` active, the bits,
`CS` inactive. -/
def frameWave (c : Cfg) (p : Pins) (kind : FrameKind) (bytes : List Byte) : List Pins :=
  let framed : Pins := { p with dc := dcLevel c kind, cs := c.csActive }
  { p with dc := dcLevel c kind } :: framed :: (wireBits bytes).flatMap (bitWave c framed)
    ++ [{ framed with cs := !c.csActive, sclk := c.sclkIdle, mosi := (wireBits bytes).getLastD p.mosi }]

/-- The pins after one frame: `CS` inactive again, `SCLK` idle, `DC` and `MOSI` at their last level
(10 R35, 40 R66). -/
def Pins.afterFrame (p : Pins) (c : Cfg) (kind : FrameKind) (bytes : List Byte) : Pins :=
  { p with
    dc := dcLevel c kind
    cs := !c.csActive
    sclk := c.sclkIdle
    mosi := (wireBits bytes).getLastD p.mosi }

/-- The levels of the pins during a reset pulse (40 R75); the delays take no modelled time (00 R10). -/
def pulseWave (c : Cfg) (p : Pins) : List Pins := [{ p with rst := c.rstActive }, { p with rst := !c.rstActive }]

/-- The pins after a reset pulse (40 R75). -/
def Pins.afterPulse (p : Pins) (c : Cfg) : Pins := { p with rst := !c.rstActive }

/-- The receiver (30 R59): the bits that stand on `MOSI` when `SCLK` leaves its idle level while `CS` is active. -/
def receivedBits (c : Cfg) (wave : List Pins) : List Bool :=
  (wave.filter fun p => p.cs == c.csActive && p.sclk != c.sclkIdle).map (·.mosi)

/-- Eight bits as a byte, the first the most significant. -/
def bitsToByte (b7 b6 b5 b4 b3 b2 b1 b0 : Bool) : Byte :=
  BitVec.ofBool b7 ++ BitVec.ofBool b6 ++ BitVec.ofBool b5 ++ BitVec.ofBool b4
    ++ BitVec.ofBool b3 ++ BitVec.ofBool b2 ++ BitVec.ofBool b1 ++ BitVec.ofBool b0

/-- The bytes of a bit list, most significant bit first; bits short of a byte are dropped. -/
def bitsToBytes : List Bool → List Byte
  | b7 :: b6 :: b5 :: b4 :: b3 :: b2 :: b1 :: b0 :: rest => bitsToByte b7 b6 b5 b4 b3 b2 b1 b0 :: bitsToBytes rest
  | _ => []

/-- The kind that the receiver reads: the level of `DC` while `CS` is active (30 R59). -/
def receivedKind (c : Cfg) (wave : List Pins) : Option FrameKind :=
  match wave.find? fun p => p.cs == c.csActive with
  | some p => if p.dc = c.dcCmd then some .command else some .data
  | none => none

/-- What the receiver reads from the levels of one frame (30 R59). -/
def receiveFrame (c : Cfg) (wave : List Pins) : Option (FrameKind × List Byte) :=
  (receivedKind c wave).map fun k => (k, bitsToBytes (receivedBits c wave))

end Sys2Proof.Machine
end

