-- ==== Sys2Proof/Machine/Ops.lean ====
section
/-! DEFINITION. The shared operations over the state: the draws, the trace, faults and results (00 R10, 60
R119), the frame buffer (00 R9), the panel and the monitor (60 R123, R124), frame emission and abort
(40 R67, R68), the contexts (10 R28 to R30), and block reset (70 R138). The EPDC has no trap entry and
no return (60 R127): what stands for "taking an exception" here is raising a sticky fault. -/

namespace Sys2Proof.Machine

/-! ### Draws (00 R10) -/

/-- The answer that the next Boolean draw gets: the environment's next one, or the free stream's. -/
def State.answer (s : State) : Bool :=
  match s.env.answers with
  | a :: _ => a
  | [] => Config.answer s.env.draws

/-- The environment after a draw has taken its answer. -/
def Env.afterAnswer (e : Env) : Env :=
  match e.answers with
  | _ :: rest => { e with answers := rest }
  | [] => { e with draws := e.draws + 1 }

/-- The state after a draw has taken its answer. -/
def State.afterAnswer (s : State) : State := { s with env := s.env.afterAnswer }

/-! ### Trace, faults and results -/

/-- Appends one event to the trace (00 R12). -/
def State.log (s : State) (e : Event) : State := { s with trace := s.trace ++ [e] }

/-- The bits of `FAULT` (10 R19). -/
def fIllegal : Nat := 0
def fNotIdle : Nat := 1
def fRange : Nat := 2
def fTransport : Nat := 3

/-- `raise Fault(b)`: sets one sticky bit of `FAULT` and does nothing else (60 R119). -/
def State.raiseFault (s : State) (bit : Nat) : State :=
  { s with regs := { s.regs with fault := s.regs.fault ||| (1#32 <<< bit) } }

/-- The bits of `MON_FAULT` (10 R36). -/
def mAsleep : Nat := 0
def mNoInit : Nat := 1
def mPanelBusy : Nat := 2

/-- Sets one sticky bit of `MON_FAULT` when its condition holds (60 R123). -/
def Monitor.record (m : Monitor) (bit : Nat) (when : Bool) : Monitor :=
  if when then { m with fault := m.fault ||| (1#3 <<< bit) } else m

/-- `Result(code)` (00 R10). -/
def State.result (s : State) (code : ResultCode) : State :=
  { s with refresh := { s.refresh with resultCode := code } }

/-- A host operation finishes: `Result(code)` and its `HostOp` event (10 R27, 41 R82). -/
def State.finish (s : State) (op : OpId) (code : ResultCode) : State := (s.result code).log (.hostOp op code)

/-- A host operation ends in a fault: the bit, `Result(FAULTED)`, its `HostOp` event (60 R120). -/
def State.finishFaulted (s : State) (op : OpId) (bit : Nat) : State := (s.raiseFault bit).finish op .faulted

/-! ### Frame buffer (00 R9, 10 R32) -/

/-- What the buffer's written bytes hold at an address, if anything has been written there. -/
def Memory.read : Memory → Nat → Option Byte
  | [], _ => none
  | (k, v) :: m, a => if k = a then some v else Memory.read m a

/-- Writes one byte, keeping the addresses strictly rising. -/
def Memory.write : Memory → Nat → Byte → Memory
  | [], a, v => [(a, v)]
  | (k, w) :: m, a, v =>
    if a < k then (a, v) :: (k, w) :: m
    else if a = k then (a, v) :: m
    else (k, w) :: Memory.write m a v

/-- The buffer with the same byte at every address below `n` (43 R113). -/
def Memory.filled (n : Nat) (v : Byte) : Memory := (List.range n).map fun a => (a, v)

/-- Addresses strictly rise, and none is below `lo`. -/
def Memory.wfFrom : Nat → Memory → Bool
  | _, [] => true
  | lo, (a, _) :: m => decide (lo ≤ a) && Memory.wfFrom (a + 1) m

/-- The canonical form: addresses strictly rising. An address that is not listed holds no written
byte, and no entry stands for "no written byte", so equal buffers are equal lists. -/
def Memory.wf (m : Memory) : Bool := Memory.wfFrom 0 m

/-- Every listed address lies in the frame-buffer space `0..n-1` (20 R39). -/
def Memory.below (n : Nat) (m : Memory) : Bool := m.all fun c => decide (c.1 < n)

/-- `MemRead(a, 1)`: the byte written last, or the free value of an unwritten byte (00 R9, 10 R38, 43 R114). -/
def State.memRead (s : State) (a : Nat) : Byte := (Memory.read s.fb a).getD (Config.fbByte s.fbEra a)

/-- `MemWrite(a, 1, v)` (00 R9). -/
def State.memWrite (s : State) (a : Nat) (v : Byte) : State := { s with fb := Memory.write s.fb a v }

/-- Every byte of `FB` takes a drawn value (40 R80). -/
def State.havocFb (s : State) : State := { s with fb := [], fbEra := s.fbEra + 1 }

/-- `FB[i] <- v` for every `i` (43 R113). -/
def State.fillFb (s : State) (v : Byte) : State := { s with fb := Memory.filled s.cfg.fbSize v }

/-- The bytes of row `r`, inverted, in ascending address order (40 R71). -/
def State.rowBytes (s : State) (r : Nat) : List Byte :=
  (List.range s.cfg.stride).map fun k => ~~~ s.memRead (r * s.cfg.stride + k)

/-- The bytes of a blank row (40 R71). -/
def blankBytes (c : Cfg) : List Byte := (List.range c.stride).map fun _ => 0xFF#8

/-! ### Panel (60 R124) -/

/-- `PanelBusyEvent()`: the panel may raise its busy line, now or (with `PANEL_LATE_BUSY`) later. -/
def State.panelBusyEvent (s : State) : State :=
  if s.cfg.panelLateBusy then { s with panel := { s.panel with ppend := true } }
  else { s.afterAnswer with panel := { s.panel with pbusy := s.answer } }

/-- What a sample of `BUSY_IN` reads: the panel's line while awake, a draw while asleep. -/
def State.sampleValue (s : State) : Bool := if s.mon.asleep then s.answer else s.panel.pbusy

/-- `Sample()`: takes a draw while asleep, and appends its event. -/
def State.afterSample (s : State) : State :=
  (if s.mon.asleep then s.afterAnswer else s).log (.sample s.sampleValue)

/-- The panel's move `rise`, where it has one; else `none`. -/
def Panel.rise (p : Panel) : Panel := if p.ppend then { pbusy := true, ppend := false } else p

/-- The panel's move `fall`, where it has one; else `none`. -/
def Panel.fall (p : Panel) : Panel := if p.pbusy && !p.ppend then { p with pbusy := false } else p

/-! ### Contexts (10 R28 to R30) -/

/-- `pc <- pc + 1` of the context executing. A BG step that does not say otherwise leaves it in its
segment (20 R49). -/
def State.advance (s : State) : State :=
  match s.ctx with
  | .fg => { s with fg := { s.fg with pc := s.fg.pc + 1 } }
  | .bg => { s with bg := { s.bg with pc := s.bg.pc + 1, inSegment := true } }

/-- The pc stays. A BG step that does not say otherwise leaves it in its segment (20 R49). -/
def State.stay (s : State) : State :=
  match s.ctx with
  | .fg => s
  | .bg => { s with bg := { s.bg with inSegment := true } }

/-- `bg_in_segment <- 0` (40 R77, R78). -/
def State.leaveSegment (s : State) : State := { s with bg := { s.bg with inSegment := false } }

/-- `Abort()` of the context executing (40 R68). -/
def State.abort (s : State) : State :=
  match s.ctx with
  | .fg =>
    let t := s.finish s.fg.op .transport
    { t with fg := { t.fg with active := false } }
  | .bg => { s with bg := { s.bg with err := true, inSegment := false, active := false } }

/-- The end of the program of the context executing (40 R81). -/
def State.endContext (s : State) : State :=
  match s.ctx with
  | .fg =>
    let t := s.finish s.fg.op .ok
    { t with fg := { t.fg with active := false } }
  | .bg => { s with bg := { s.bg with active := false, inSegment := false } }

/-- Starts FG with a program (10 R28, 41 R82). -/
def State.startFg (s : State) (op : BitVec 4) (prog : List MicroOp) : State :=
  { s with fg := { active := true, op := .host op, prog := prog, pc := 0 } }

/-- Starts BG with a program (10 R29, 41 R90). -/
def State.startBg (s : State) (prog : List MicroOp) : State :=
  { s with bg := { active := true, prog := prog, pc := 0, inSegment := false, err := false } }

/-- Places micro-ops before the current one of the context executing: how a group stands in a program
(00 R11, log 1). -/
def State.splice (s : State) (ops : List MicroOp) : State :=
  match s.ctx with
  | .fg => { s with fg := { s.fg with prog := s.fg.prog.take s.fg.pc ++ ops ++ s.fg.prog.drop s.fg.pc } }
  | .bg => { s with bg := { s.bg with prog := s.bg.prog.take s.bg.pc ++ ops ++ s.bg.prog.drop s.bg.pc } }

/-! ### Frames (40 R66 to R68) -/

/-- What the monitor records when a frame is emitted (40 R67, 60 R123), before the transport draw. -/
def State.observeFrame (s : State) : State :=
  { s with mon := (s.mon.record mAsleep s.mon.asleep).record mPanelBusy s.panel.pbusy }

/-- The pins driven through one frame (40 R66). -/
def State.drivePins (s : State) (kind : FrameKind) (bytes : List Byte) : State :=
  { s with pins := s.pins.afterFrame s.cfg kind bytes }

/-- A frame as far as the transport draw: the monitor records, the pins are driven, the draw is taken. -/
def State.beginFrame (s : State) (kind : FrameKind) (bytes : List Byte) : State :=
  (s.observeFrame.drivePins kind bytes).afterAnswer

/-- A frame that was written without failure. -/
def State.frameSent (s : State) (kind : FrameKind) (bytes : List Byte) (bi : Bool) : State :=
  let t := (s.beginFrame kind bytes).log (.frame kind bytes)
  if bi then t.panelBusyEvent else t

/-- A frame that failed: `FrameFailed`, `F_TRANSPORT`, and the context aborts (40 R67, R68). -/
def State.frameFailed (s : State) (kind : FrameKind) (bytes : List Byte) : State :=
  (((s.beginFrame kind bytes).log (.frameFailed kind bytes)).raiseFault fTransport).abort

/-- `Emit(kind, bytes, bi)` (40 R67), without the pc. -/
def State.emit (s : State) (kind : FrameKind) (bytes : List Byte) (bi : Bool) : State :=
  if s.answer then s.frameSent kind bytes bi else s.frameFailed kind bytes

/-- `if Emit(kind, bytes, bi) then pc <- pc + 1` (40 R69 to R71). -/
def State.emitOp (s : State) (kind : FrameKind) (bytes : List Byte) (bi : Bool) : State :=
  if s.answer then (s.frameSent kind bytes bi).advance else s.frameFailed kind bytes

/-- The hardware reset pulse, without the pc (40 R75). -/
def State.pulse (s : State) : State :=
  { (s.log .resetPulse) with
    pins := s.pins.afterPulse s.cfg
    mon := { s.mon with asleep := false, fullCfgValid := false } }.panelBusyEvent

/-! ### `SET` (40 R79) -/

/-- Writes one field. -/
def State.assign (s : State) : Assign → State
  | .fsm v => { s with refresh := { s.refresh with fsm := v } }
  | .mode v => { s with refresh := { s.refresh with mode := v } }
  | .updated v => { s with refresh := { s.refresh with updated := v } }
  | .complete v => { s with refresh := { s.refresh with complete := v } }
  | .monAsleep v => { s with mon := { s.mon with asleep := v } }
  | .monFullCfgValid v => { s with mon := { s.mon with fullCfgValid := v } }

/-- Writes all pairs in one step. -/
def State.assignAll (s : State) (ps : List Assign) : State := ps.foldl State.assign s

/-! ### Block reset (70 R138) -/

/-- Block reset: every element of the table of 10 R38 takes its value, the unspecified ones draws. -/
def State.blockReset (s : State) : State :=
  let t := s.afterAnswer
  let u := t.afterAnswer
  State.atReset s.cfg s.answer t.answer u.answer (s.fbEra + 1) u.afterAnswer.env

end Sys2Proof.Machine
end

