-- ==== Sys2Proof/Machine/Operands.lean ====
section
/-! DEFINITION. Operand assembly (30 R57): the operands of a host operation are fields of `ARG0..ARG2`, all
unsigned, read in the acceptance step. -/

namespace Sys2Proof.Machine

/-- `x = ARG0[31:0]`. -/
def State.opX (s : State) : Nat := s.regs.arg0.toNat

/-- `y = ARG1[31:0]`. -/
def State.opY (s : State) : Nat := s.regs.arg1.toNat

/-- `i = ARG0[31:0]`. -/
def State.opI (s : State) : Nat := s.regs.arg0.toNat

/-- `v = ARG2[0]`. -/
def State.opV (s : State) : Bool := s.regs.arg2.getLsbD 0

/-- `f = ARG2[0]`. -/
def State.opF (s : State) : Bool := s.regs.arg2.getLsbD 0

/-- `b = ARG2[7:0]`. -/
def State.opB (s : State) : Byte := s.regs.arg2.extractLsb' 0 8

/-- The pixel (x, y) exists (43 R110, R111). -/
def State.pixelInRange (s : State) (x y : Nat) : Bool := x < s.cfg.width && y < s.cfg.height

/-- The byte index is in the frame-buffer space (43 R114, R115). -/
def State.byteInRange (s : State) (i : Nat) : Bool := i < s.cfg.fbSize

/-- The pixel (x, y) as the buffer holds it (20 R40). -/
def State.pixel (s : State) (x y : Nat) : Bool := (s.memRead (s.cfg.pixelAddr x y)).getLsbD (pixelBit x)

/-- A byte with one bit replaced: `(b & ~(1 << k)) | (v << k)` (43 R110). -/
def setBit (b : Byte) (k : Nat) (v : Bool) : Byte :=
  (b &&& ~~~ (1#8 <<< k)) ||| ((BitVec.ofBool v).setWidth 8 <<< k)

end Sys2Proof.Machine
end

