-- ==== Sys2Proof/Machine/Flags.lean ====
section
/-! DEFINITION. The flags and the registers that are views of the state: `BUSY`, `ACCEPT`, `READY`, `STATUS`
(10 R17), `GEOM` (R20), `CONFIG` (R21), and the level of `BUSY_IN` (10 R37). -/

namespace Sys2Proof.Machine

/-- `STATUS.BUSY = (FSM != Idle)` (10 R24). -/
def State.busy (s : State) : Bool := s.refresh.fsm != .idle

/-- `STATUS.ACCEPT = (fg_active = 0) and (bg_in_segment = 0)` (10 R31). -/
def State.accept (s : State) : Bool := !s.fg.active && !s.bg.inSegment

/-- `STATUS.READY`, from the sample that the read of `STATUS` takes (42 R101). -/
def State.ready (s : State) (sampledBusy : Bool) : Bool := !s.busy && !sampledBusy

/-- `STATUS.FAULTED = (FAULT != 0)` (60 R119). -/
def State.faulted (s : State) : Bool := s.regs.fault != 0

/-- The register value of `FSM` (10 R23). -/
def fsmCode : Fsm → BitVec 2
  | .idle => 0
  | .refreshingFull => 1
  | .refreshingPartial => 2

/-- The register value of `MODE` (10 R25). -/
def modeCode : Mode → BitVec 1
  | .fullMode => 0
  | .partialMode => 1

/-- The register value of `RESULT_CODE` (10 R27). -/
def resultCodeBits : ResultCode → BitVec 3
  | .ok => 0
  | .busy => 1
  | .unsupported => 2
  | .transport => 3
  | .faulted => 4

/-- `STATUS` (10 R17), bit 31 first; `sampledBusy` is the sample of `BUSY_IN` that the read takes. -/
def State.statusWord (s : State) (sampledBusy : Bool) : Word :=
  0#18 ++ BitVec.ofBool s.faulted ++ BitVec.ofBool s.bg.err ++ BitVec.ofBool s.bg.active
    ++ resultCodeBits s.refresh.resultCode ++ BitVec.ofBool s.accept ++ BitVec.ofBool s.refresh.complete
    ++ BitVec.ofBool s.refresh.updated ++ fsmCode s.refresh.fsm ++ modeCode s.refresh.mode
    ++ BitVec.ofBool (s.ready sampledBusy) ++ BitVec.ofBool s.busy

/-- `GEOM`: `WIDTH` in bits 15..0, `HEIGHT` in bits 31..16 (10 R20). -/
def geomWord (c : Cfg) : Word := BitVec.ofNat 16 c.height ++ BitVec.ofNat 16 c.width

/-- `CONFIG` (10 R21). -/
def configWord (c : Cfg) : Word :=
  BitVec.ofNat 16 c.yieldBatch ++ 0#13 ++ BitVec.ofBool c.initPartial ++ BitVec.ofBool c.partialSupported
    ++ BitVec.ofBool c.asyncRuntime

/-- The level of the pin `BUSY_IN` while the panel is awake (10 R37); asleep, each sample is a draw. -/
def State.busyInLevel (s : State) : Bool := if s.panel.pbusy then s.cfg.busyActive else !s.cfg.busyActive

end Sys2Proof.Machine
end

