-- ==== Sys2Proof/Machine/FrameBufferOps.lean ====
section
/-! DEFINITION. The frame-buffer operations (43): each runs in its acceptance step, in any `FSM` state. -/

namespace Sys2Proof.Machine

/-- `SET_PIXEL x, y, v` in range (43 R110). -/
def State.putPixel (s : State) (x y : Nat) (v : Bool) : State :=
  s.memWrite (s.cfg.pixelAddr x y) (setBit (s.memRead (s.cfg.pixelAddr x y)) (pixelBit x) v)

/-- `RESULT <- v` (10 R18). -/
def State.setResult (s : State) (v : Word) : State := { s with regs := { s.regs with result := v } }

/-- The range check of the frame-buffer operations (43, preamble): out of range only faults. -/
def State.ifInRange (s : State) (op : BitVec 4) (inRange : Bool) (accepted : State) : State :=
  if inRange then accepted.finish (.host op) .ok else s.finishFaulted (.host op) fRange

/-- `SET_PIXEL x, y, v` (43 R110). -/
def execSetPixel (s : State) : Result :=
  .next (s.ifInRange 0x9 (s.pixelInRange s.opX s.opY) (s.putPixel s.opX s.opY s.opV))

/-- `GET_PIXEL x, y` (43 R111). -/
def execGetPixel (s : State) : Result :=
  .next (s.ifInRange 0xA (s.pixelInRange s.opX s.opY)
    (s.setResult ((BitVec.ofBool (s.pixel s.opX s.opY)).setWidth 32)))

/-- `FILL v` (43 R113). -/
def execFill (s : State) : Result :=
  .next ((s.fillFb (if s.opV then 0xFF#8 else 0x00#8)).finish (.host 0xB) .ok)

/-- `READ_BYTE i` (43 R114). -/
def execReadByte (s : State) : Result :=
  .next (s.ifInRange 0xC (s.byteInRange s.opI) (s.setResult ((s.memRead s.opI).setWidth 32)))

/-- `WRITE_BYTE i, b` (43 R115). -/
def execWriteByte (s : State) : Result :=
  .next (s.ifInRange 0xD (s.byteInRange s.opI) (s.memWrite s.opI s.opB))

end Sys2Proof.Machine
end

