-- ==== Sys2Proof/Machine/MicroOps.lean ====
section
/-! DEFINITION. The micro-ops (40 R69 to R71, R75 to R81): what each does in one step of the context
executing, `State.ctx`. -/

namespace Sys2Proof.Machine

/-- `END` (40 R81). -/
def execUopEnd (s : State) : Result := .next s.endContext

/-- `CMD op, bi` (40 R69). -/
def execUopCmd (op : Byte) (bi : Bool) (s : State) : Result := .next (s.emitOp .command [op] bi)

/-- `DATA bytes, bi` (40 R70). -/
def execUopData (b : Byte) (bs : List Byte) (bi : Bool) (s : State) : Result := .next (s.emitOp .data (b :: bs) bi)

/-- `ROW src, r` (40 R71). An `FB` row that does not exist has no address (log 13); a blank row reads none. -/
def execUopRow (src : RowSrc) (r : Nat) (s : State) : Result :=
  match src with
  | .fb =>
    if rowExists s.cfg.height r then .next (s.emitOp .data (s.rowBytes r) false) else .fault (.rowOutOfRange r)
  | .blank => .next (s.emitOp .data (blankBytes s.cfg) false)

/-- `RSTP` (40 R75). -/
def execUopRstp (s : State) : Result := .next s.pulse.advance

/-- `WAITR` (40 R76): samples, and advances only when the line reads not busy. -/
def execUopWaitr (s : State) : Result :=
  .next (if s.sampleValue then s.afterSample.stay else s.afterSample.advance)

/-- `WAITRY` (40 R77): a busy sample is a yield point. -/
def execUopWaitry (s : State) : Result :=
  .next (if s.sampleValue then s.afterSample.leaveSegment else s.afterSample.advance)

/-- `YIELD` (40 R78): in FG it would only advance the pc. -/
def execUopYield (s : State) : Result :=
  .next (match s.ctx with
    | .fg => s.advance
    | .bg => s.advance.leaveSegment)

/-- `SET pairs` (40 R79). -/
def execUopSet (pairs : List Assign) (s : State) : Result := .next (s.assignAll pairs).advance

/-- `HAVOC_FB` (40 R80). -/
def execUopHavocFb (s : State) : Result := .next s.havocFb.advance

end Sys2Proof.Machine
end

