-- ==== Sys2Proof/Machine/RefreshOps.lean ====
section
/-! DEFINITION. The acceptance steps of the refresh operations (41 R82 to R97) and of `WAIT_READY` (42
R100). Each meaning is what the accepted `CMD` write does in its one step; that the write is held
while `ACCEPT = 0` is the host's step (Machine/Agents.lean). -/

namespace Sys2Proof.Machine

/-- The operations that require `Idle` (41 R84): while `BUSY = 1` the acceptance only faults. -/
def State.requireIdle (s : State) (op : BitVec 4) (accepted : State) : State :=
  if s.busy then s.finishFaulted (.host op) fNotIdle else accepted

/-- `INIT_FULL f` (41 R85). -/
def execInitFull (s : State) : Result := .next (s.requireIdle 0x1 (s.startFg 0x1 (s.cfg.pInit s.opF)))

/-- The write of `MODE` by a mode selection that is accepted (41 R86, R87). -/
def State.selectMode (s : State) (op : BitVec 4) (m : Mode) : State :=
  { s with refresh := { s.refresh with mode := m } }.finish (.host op) .ok

/-- `SELECT_FULL` (41 R86). -/
def execSelectFull (s : State) : Result := .next (s.requireIdle 0x2 (s.selectMode 0x2 .fullMode))

/-- `SELECT_PARTIAL` (41 R87): the state check, then the capability check (60 R126). -/
def execSelectPartial (s : State) : Result :=
  .next <| s.requireIdle 0x3 <|
    if s.cfg.partialSupported then s.selectMode 0x3 .partialMode else s.finish (.host 0x3) .unsupported

/-- What the monitor records when a full-mode `SHOW` is accepted (41 R89, R90, 60 R123). -/
def State.checkFullInit (s : State) : State := { s with mon := s.mon.record mNoInit (!s.mon.fullCfgValid) }

/-- `FSM <- v`. -/
def State.setFsm (s : State) (v : Fsm) : State := { s with refresh := { s.refresh with fsm := v } }

/-- `SHOW` in full mode without a cooperative runtime (41 R89). -/
def State.showFullBlocking (s : State) : State :=
  (s.checkFullInit.setFsm .refreshingFull).startFg 0x4 s.cfg.pFullBlk

/-- `SHOW` in full mode under a cooperative runtime (41 R90). -/
def State.showFullAsync (s : State) : State :=
  let t := s.checkFullInit
  let u := { t with refresh := { t.refresh with fsm := .refreshingFull, updated := false, complete := false } }
  (u.startBg s.cfg.pFullAsync).finish (.host 0x4) .ok

/-- `SHOW` in partial mode (41 R91). -/
def State.showPartial (s : State) : State :=
  let t := s.setFsm .refreshingPartial
  { t with mon := { t.mon with fullCfgValid := false } }.startFg 0x4 s.cfg.pPart

/-- `SHOW` (41 R88): while a refresh is in progress, the result `BUSY` and nothing else. -/
def execShow (s : State) : Result :=
  .next <|
    if s.busy then s.finish (.host 0x4) .busy
    else match s.refresh.mode with
      | .fullMode => if s.cfg.asyncRuntime then s.showFullAsync else s.showFullBlocking
      | .partialMode => s.showPartial

/-- `CLEAR` (41 R95). -/
def execClear (s : State) : Result := .next (s.requireIdle 0x5 (s.startFg 0x5 s.cfg.pClear))

/-- `SLEEP` (41 R96). -/
def execSleep (s : State) : Result := .next (s.requireIdle 0x6 (s.startFg 0x6 s.cfg.pSleep))

/-- `RESET` (41 R97): a panel reset, in any `FSM` state. -/
def execReset (s : State) : Result := .next (s.startFg 0x7 pReset)

/-- `WAIT_READY` (42 R100), in any `FSM` state. -/
def execWaitReady (s : State) : Result := .next (s.startFg 0x8 pWait)

end Sys2Proof.Machine
end

