-- ==== Sys2Proof/Machine/Reserved.lean ====
section
/-! DEFINITION. The reserved `CMD` words (60 R121): the acceptance raises `F_ILLEGAL`, writes `RESULT_CODE =
FAULTED` and its `HostOp` event, latches nothing and starts nothing. -/

namespace Sys2Proof.Machine

/-- An illegal `CMD` word whose `OP` is `op` (41 R82). -/
def State.illegalCmd (s : State) (op : BitVec 4) : State := s.finishFaulted (.host op) fIllegal

/-- `OP` 0x0 (60 R121). -/
def execReservedOp0 (s : State) : Result := .next (s.illegalCmd 0x0)

/-- `OP` 0xE (60 R121). -/
def execReservedOpE (s : State) : Result := .next (s.illegalCmd 0xE)

/-- `OP` 0xF (60 R121). -/
def execReservedOpF (s : State) : Result := .next (s.illegalCmd 0xF)

/-- `CMD[31:4] != 0`, with any `OP` (60 R121): the event names `OP` only. -/
def execReservedHighBits (_hi : BitVec 28) (op : BitVec 4) (s : State) : Result := .next (s.illegalCmd op)

end Sys2Proof.Machine
end

