-- ==== Sys2Proof/Machine/WireOps.lean ====
section
/-! DEFINITION. The wire rows of the opcode table (log 1). A frame row is one `Emit` by the context
executing, without the pc, which belongs to the micro-op (40 R67). A group row is the expansion of the group, placed
in the program of the context executing before its current micro-op (00 R11, 40 R73, R74): the steps
that follow send its frames. -/

namespace Sys2Proof.Machine

/-- A command frame `Frame(C, [op])` (30 R58, 40 R66, R67). -/
def execWireCommandFrame (op : Byte) (s : State) : Result := .next (s.emit .command [op] false)

/-- A data frame `Frame(D, bytes)` (30 R58, 40 R66, R67). -/
def execWireDataFrame (b : Byte) (bs : List Byte) (s : State) : Result := .next (s.emit .data (b :: bs) false)

/-- `G(SWRESET)` (30 R60). -/
def execWireSwreset (s : State) : Result := .next (s.splice (s.cfg.group .swreset))

/-- `G(DEM)` (30 R60). -/
def execWireDem (s : State) : Result := .next (s.splice (s.cfg.group .dem))

/-- `G(BORDER_FULL)` (30 R60). -/
def execWireBorderFull (s : State) : Result := .next (s.splice (s.cfg.group .borderFull))

/-- `G(BORDER_PARTIAL)` (30 R60). -/
def execWireBorderPartial (s : State) : Result := .next (s.splice (s.cfg.group .borderPartial))

/-- `G(DUC_PARTIAL)` (30 R60). -/
def execWireDucPartial (s : State) : Result := .next (s.splice (s.cfg.group .ducPartial))

/-- `G(WINDOW)` (30 R60). -/
def execWireWindow (s : State) : Result := .next (s.splice (s.cfg.group .window))

/-- `G(CURSOR)` (30 R60). -/
def execWireCursor (s : State) : Result := .next (s.splice (s.cfg.group .cursor))

/-- `G(ACT_FULL)` (30 R60). -/
def execWireActFull (s : State) : Result := .next (s.splice (s.cfg.group .actFull))

/-- `G(ACT_PARTIAL)` (30 R60). -/
def execWireActPartial (s : State) : Result := .next (s.splice (s.cfg.group .actPartial))

/-- `G(SLEEP)` (30 R60). -/
def execWireSleep (s : State) : Result := .next (s.splice (s.cfg.group .sleep))

/-- `G(FORCE)` (30 R60). -/
def execWireForce (s : State) : Result := .next (s.splice (s.cfg.group .force))

/-- `ROWS(WRITE_CUR, src, ctx)` (30 R60, 40 R74). -/
def execWireWriteCur (src : RowSrc) (s : State) : Result :=
  .next (s.splice (s.cfg.rows s.cfg.wcfg.writeCur src s.ctx))

/-- `ROWS(WRITE_PREV, src, ctx)` (30 R60, 40 R74). -/
def execWireWritePrev (src : RowSrc) (s : State) : Result :=
  .next (s.splice (s.cfg.rows s.cfg.wcfg.writePrev src s.ctx))

end Sys2Proof.Machine
end

