-- ==== Sys2Proof/Machine/Dispatch.lean ====
section
/-! DEFINITION. `exec`: one arm per row of spec/opcode_table.json, each one call of its meaning. -/

namespace Sys2Proof.Machine

def exec (i : Instr) (s : State) : Host.Outcome State Fault Refusal :=
  match i with
  | .initFull => Sys2Proof.Machine.execInitFull s
  | .selectFull => Sys2Proof.Machine.execSelectFull s
  | .selectPartial => Sys2Proof.Machine.execSelectPartial s
  | .showRefresh => Sys2Proof.Machine.execShow s
  | .clear => Sys2Proof.Machine.execClear s
  | .sleep => Sys2Proof.Machine.execSleep s
  | .reset => Sys2Proof.Machine.execReset s
  | .waitReady => Sys2Proof.Machine.execWaitReady s
  | .setPixel => Sys2Proof.Machine.execSetPixel s
  | .getPixel => Sys2Proof.Machine.execGetPixel s
  | .fill => Sys2Proof.Machine.execFill s
  | .readByte => Sys2Proof.Machine.execReadByte s
  | .writeByte => Sys2Proof.Machine.execWriteByte s
  | .reservedOp0 => Sys2Proof.Machine.execReservedOp0 s
  | .reservedOpE => Sys2Proof.Machine.execReservedOpE s
  | .reservedOpF => Sys2Proof.Machine.execReservedOpF s
  | .reservedHighBits hi op => Sys2Proof.Machine.execReservedHighBits hi op s
  | .uopEnd => Sys2Proof.Machine.execUopEnd s
  | .uopCmd op bi => Sys2Proof.Machine.execUopCmd op bi s
  | .uopData b bs bi => Sys2Proof.Machine.execUopData b bs bi s
  | .uopRow src r => Sys2Proof.Machine.execUopRow src r s
  | .uopRstp => Sys2Proof.Machine.execUopRstp s
  | .uopWaitr => Sys2Proof.Machine.execUopWaitr s
  | .uopWaitry => Sys2Proof.Machine.execUopWaitry s
  | .uopYield => Sys2Proof.Machine.execUopYield s
  | .uopSet pairs => Sys2Proof.Machine.execUopSet pairs s
  | .uopHavocFb => Sys2Proof.Machine.execUopHavocFb s
  | .wireCommandFrame op => Sys2Proof.Machine.execWireCommandFrame op s
  | .wireDataFrame b bs => Sys2Proof.Machine.execWireDataFrame b bs s
  | .wireSwreset => Sys2Proof.Machine.execWireSwreset s
  | .wireDem => Sys2Proof.Machine.execWireDem s
  | .wireBorderFull => Sys2Proof.Machine.execWireBorderFull s
  | .wireBorderPartial => Sys2Proof.Machine.execWireBorderPartial s
  | .wireDucPartial => Sys2Proof.Machine.execWireDucPartial s
  | .wireWindow => Sys2Proof.Machine.execWireWindow s
  | .wireCursor => Sys2Proof.Machine.execWireCursor s
  | .wireActFull => Sys2Proof.Machine.execWireActFull s
  | .wireActPartial => Sys2Proof.Machine.execWireActPartial s
  | .wireSleep => Sys2Proof.Machine.execWireSleep s
  | .wireForce => Sys2Proof.Machine.execWireForce s
  | .wireWriteCur src => Sys2Proof.Machine.execWireWriteCur src s
  | .wireWritePrev src => Sys2Proof.Machine.execWireWritePrev src s

end Sys2Proof.Machine
end

