-- ==== Sys2Proof/Machine/Registers.lean ====
section
/-! DEFINITION. The host register window (10 R14 to R22, 20 R43): what a read returns and does, and what a
write other than to `CMD` does. -/

namespace Sys2Proof.Machine

/-- The offsets of the nine registers (10 R14). -/
def offCmd : Word := 0x00
def offArg0 : Word := 0x04
def offArg1 : Word := 0x08
def offArg2 : Word := 0x0C
def offStatus : Word := 0x10
def offResult : Word := 0x14
def offFault : Word := 0x18
def offGeom : Word := 0x1C
def offConfig : Word := 0x20

/-- A whole aligned word (20 R43). A poll reads `STATUS` as one. -/
def Access.wholeWord : Access → Bool
  | .read size off => size == 4 && off.toNat % 4 == 0
  | .write size off _ => size == 4 && off.toNat % 4 == 0
  | .poll _ _ => true

/-- Where an access stands on the host's bus, at the base `HOST_BASE` (20 R47, 60 R131). -/
def Access.busAddress (c : Cfg) : Access → Nat
  | .read _ off => c.busAddress off
  | .write _ off _ => c.busAddress off
  | .poll _ _ => c.busAddress offStatus

/-- The value that a read of the window returns (10 R14, R22, 20 R45): only `STATUS` depends on a sample. -/
def State.readValue (s : State) (off : Word) : Word :=
  if off = offArg0 then s.regs.arg0
  else if off = offArg1 then s.regs.arg1
  else if off = offArg2 then s.regs.arg2
  else if off = offStatus then s.statusWord s.sampleValue
  else if off = offResult then s.regs.result
  else if off = offFault then s.regs.fault
  else if off = offGeom then geomWord s.cfg
  else if off = offConfig then configWord s.cfg
  else 0

/-- The offset is one of the nine registers (10 R14). -/
def mappedOffset (off : Word) : Bool :=
  off = offCmd || off = offArg0 || off = offArg1 || off = offArg2 || off = offStatus || off = offResult
    || off = offFault || off = offGeom || off = offConfig

/-- What a read of the window does (20 R45): `STATUS` takes a sample, an unmapped offset raises
`F_ILLEGAL` (10 R22), any other read does nothing. -/
def State.afterRead (s : State) (off : Word) : State :=
  if off = offStatus then s.afterSample
  else if mappedOffset off then s
  else s.raiseFault fIllegal

/-- The host gets the value of a read (60 R135). -/
def State.deliver (s : State) (v : Word) : State := { s with env := { s.env with rdata := v } }

/-- A host read: its effect, and its value delivered. -/
def State.hostRead (s : State) (off : Word) : State := (s.afterRead off).deliver (s.readValue off)

/-- A host write to an offset other than `CMD`: the `ARG` registers take it (10 R16); a read-only
register or an unmapped offset raises `F_ILLEGAL` and changes nothing else (10 R22). -/
def State.hostWrite (s : State) (off v : Word) : State :=
  if off = offArg0 then { s with regs := { s.regs with arg0 := v } }
  else if off = offArg1 then { s with regs := { s.regs with arg1 := v } }
  else if off = offArg2 then { s with regs := { s.regs with arg2 := v } }
  else s.raiseFault fIllegal

end Sys2Proof.Machine
end

