-- ==== Sys2Proof/Machine/Agents.lean ====
section
/-! DEFINITION. The steps of the agents (00 R3) and when each is enabled (20 R49): the host's next access,
the micro-op of a context fetched at its pc, the panel's moves, block reset. A turn given to an agent
whose step is not enabled is the panel's `none` move, which always is (60 R124). -/

namespace Sys2Proof.Machine

/-! ### The host -/

/-- The host has made its next access. -/
def State.popAccess (s : State) : State := { s with env := { s.env with host := s.env.host.tail } }

/-- One round of a poll (30 R64): `RD STATUS`, and the loop ends when the bit reads as wanted. -/
def State.pollOnce (s : State) (bit : Nat) (want : Bool) : State :=
  let t := s.hostRead offStatus
  if (s.readValue offStatus).getLsbD bit = want then t.popAccess else t

/-- The host's step (20 R49, 41 R82): its next access. A `CMD` write is taken only while `ACCEPT = 1`, and is
then the acceptance step of the operation its word encodes; otherwise the host is held (10 R31). -/
def hostStep (s : State) : Result :=
  match s.env.host with
  | [] => .next s
  | .read _ off :: _ => .next (s.popAccess.hostRead off)
  | .poll bit want :: _ => .next (s.pollOnce bit want)
  | .write _ off v :: _ =>
    if off = offCmd then
      if s.accept then exec (decodeHostWord v) s.popAccess else .next s
    else .next (s.popAccess.hostWrite off v)

/-! ### The contexts -/

/-- FG is enabled (20 R49). -/
def State.fgEnabled (s : State) : Bool := s.fg.active && !s.bg.inSegment

/-- FG's current micro-op (10 R28). -/
def State.fgOp (s : State) : Option MicroOp := s.fg.prog[s.fg.pc]?

/-- BG's current micro-op (10 R29). -/
def State.bgOp (s : State) : Option MicroOp := s.bg.prog[s.bg.pc]?

/-- BG is enabled (20 R49). -/
def State.bgEnabled (s : State) : Bool :=
  s.bg.active && (s.bg.inSegment || !s.fg.active || s.fgOp == some .waitr)

/-- The context whose step it is (00 R10, log 1). -/
def State.inCtx (s : State) (c : Ctx) : State := { s with ctx := c }

/-- A context's step: its current micro-op, executed in that context (00 R11). -/
def runMicroOp (m : Option MicroOp) (c : Ctx) (s : State) : Result :=
  match m with
  | some m => exec m.toInstr (s.inCtx c)
  | none => .fault (.pcOutsideProgram c)

/-- FG's step. -/
def fgStep (s : State) : Result := if s.fgEnabled then runMicroOp s.fgOp .fg s else .next s

/-- BG's step. -/
def bgStep (s : State) : Result := if s.bgEnabled then runMicroOp s.bgOp .bg s else .next s

/-! ### The panel, the platform -/

/-- A move of the panel (60 R124). -/
def State.panelMove (s : State) (move : Panel → Panel) : State := { s with panel := move s.panel }

/-- Block reset (70 R138). -/
def blockResetStep (s : State) : Result := .next s.blockReset

/-! ### The schedule -/

/-- Whose turn it is: the schedule's next choice, or the free stream's (20 R49, log 2). -/
def State.nextTurn (s : State) : Turn :=
  match s.env.turns with
  | t :: _ => t
  | [] => Config.turn s.env.draws

/-- The choice is taken. -/
def State.afterTurn (s : State) : State :=
  match s.env.turns with
  | _ :: rest => { s with env := { s.env with turns := rest } }
  | [] => { s with env := { s.env with draws := s.env.draws + 1 } }

/-- The step of one agent. -/
def stepAs (t : Turn) (s : State) : Result :=
  match t with
  | .host => hostStep s
  | .fg => fgStep s
  | .bg => bgStep s
  | .panelRise => .next (s.panelMove Panel.rise)
  | .panelFall => .next (s.panelMove Panel.fall)
  | .panelNone => .next s
  | .blockReset => blockResetStep s

/-- Every access of the host's program is a whole aligned word; a program that holds another one is
refused as a whole (20 R43, 60 R118). -/
def State.hostProgramValid (s : State) : Bool := s.env.host.all Access.wholeWord

/-- One step of the machine (20 R49). An instance with an ill-formed configuration is refused with no step,
from construction on and whoever's turn it is (00 R6); so is a host program that has no meaning. -/
def machineStep (s : State) : Result :=
  if s.cfg.wf then
    if s.hostProgramValid then stepAs s.nextTurn s.afterTurn else .refused .hostAccessNotWholeWord
  else .refused .illFormedConfiguration

/-! ### Placing an instruction where the next step fetches it (log 11) -/

/-- The host's next access is the write of a `CMD` word, it is the host's turn, and the write is
accepted: no FG program runs, BG is at a yield point, and the instance's configuration is one that a
step accepts. -/
def State.placeHostWord (s : State) (w : Word) : State :=
  { s with
    cfg := s.cfg.madeWellFormed
    fg := { s.fg with active := false }
    bg := { s.bg with inSegment := false }
    env := { s.env with host := .write 4 offCmd w :: s.env.host, turns := .host :: s.env.turns } }

/-- FG runs a program of one micro-op and `END`, at its start, it is FG's turn, and the instance's
configuration is one that a step accepts. -/
def State.placeMicroOp (s : State) (m : MicroOp) : State :=
  { s with
    cfg := s.cfg.madeWellFormed
    fg := { s.fg with active := true, prog := [m, .endProg], pc := 0 }
    bg := { s.bg with inSegment := false }
    env := { s.env with turns := .fg :: s.env.turns } }

/-- Places the instruction that the decoder reads from a table word. Bits that are no instruction
place nothing. -/
def State.placeTableWord (s : State) (nbits w : Nat) : State :=
  match tableSpace nbits with
  | .microOp =>
    match (decodeTableWord nbits w).bind Instr.toMicroOp with
    | some m => s.placeMicroOp m
    | none => s
  | .hostWord | .wireFrame _ | .wireGroup => s.placeHostWord (BitVec.ofNat 32 w)

end Sys2Proof.Machine
end

