-- ==== Sys2Proof/Safety.lean ====
section
/-! DEFINITION. What counts as a safe run, in the terms that statements use: the outcomes of 60 R118, the end
of a run (60 R136), fairness (60 R125), and the invariants of the machine. -/

namespace Sys2Proof

/-- A micro-op that writes no register of the refresh state machine: neither a `SET` nor an `END`. -/
def MicroOp.quiet : MicroOp → Bool
  | .assign _ | .endProg => false
  | .cmd _ _ | .data _ _ _ | .row _ _ | .rstp | .waitr | .waitry | .yieldPoint | .havocFb => true

/-- A pair of a `SET` that writes none of `FSM`, `UPDATED`, `COMPLETE`. -/
def Assign.keepsRefresh : Assign → Bool
  | .fsm _ | .updated _ | .complete _ => false
  | .mode _ | .monAsleep _ | .monFullCfgValid _ => true

/-- A micro-op that writes none of `FSM`, `UPDATED`, `COMPLETE`. -/
def MicroOp.keepsRefresh : MicroOp → Bool
  | .assign ps => ps.all Assign.keepsRefresh
  | .endProg | .cmd _ _ | .data _ _ _ | .row _ _ | .rstp | .waitr | .waitry | .yieldPoint | .havocFb => true

end Sys2Proof

namespace Sys2Proof.Machine

/-! ### Outcomes (60 R118, R136) -/

/-- The run is not refused: the configuration is well formed (00 R6) and every access of the host's program
is a whole aligned word (20 R43). -/
def State.defined (s : State) : Bool := s.cfg.wf && s.hostProgramValid

/-- No fault is recorded: `FAULT = 0` and `MON_FAULT = 0` (60 R118). -/
def State.faultFree (s : State) : Bool := s.regs.fault == 0 && s.mon.fault == 0

/-- `F_TRANSPORT` is set (10 R19). -/
def State.transportFaulted (s : State) : Bool := s.regs.fault.getLsbD fTransport

/-- The host is held: its next access is a `CMD` write and `ACCEPT = 0` (10 R31, 60 R118). -/
def State.held (s : State) : Bool :=
  match s.env.host with
  | .write _ off _ :: _ => off == offCmd && !s.accept
  | _ => false

/-- The end of a run (60 R136). -/
def State.finished (s : State) : Bool :=
  s.env.host.isEmpty && !s.fg.active && !s.bg.active && !s.panel.ppend

/-! ### What a step executes, and what it does to a context and to the bus

These relations say an effect in the spec's terms, field by field; the statements about the micro-ops
and the frames are written with them. -/

/-- The instruction that a step of the machine executes: the operation of an accepted `CMD` write (41 R82)
or the current micro-op of a context whose step is enabled (20 R49). -/
def State.executes (s : State) : Option Instr :=
  match s.nextTurn with
  | .host =>
    match s.env.host with
    | .write _ off v :: _ => if off = offCmd ∧ s.accept = true then some (decodeHostWord v) else none
    | _ => none
  | .fg => if s.fgEnabled then s.fgOp.map MicroOp.toInstr else none
  | .bg => if s.bgEnabled then s.bgOp.map MicroOp.toInstr else none
  | .panelRise | .panelFall | .panelNone | .blockReset => none

/-- Every byte of the frame buffer reads as before. -/
def SameBytes (s t : State) : Prop := ∀ a, t.memRead a = s.memRead a

/-- The context executing has moved its pc by `n`, and nothing else of the two contexts changed but, in
BG, `bg_in_segment` (10 R30, 20 R49). -/
def ContextMoved (s t : State) (n : Nat) (inSegment : Bool) : Prop :=
  match s.ctx with
  | .fg => t.fg = { s.fg with pc := s.fg.pc + n } ∧ t.bg = s.bg
  | .bg => t.fg = s.fg ∧ t.bg = { s.bg with pc := s.bg.pc + n, inSegment := inSegment }

/-- `PanelBusyEvent()` (60 R124), where `now` is the answer of its draw `busy_now`. -/
def PanelRaised (s t : State) (now : Bool) : Prop :=
  t.panel = if s.cfg.panelLateBusy then { s.panel with ppend := true } else { s.panel with pbusy := now }

/-- A frame was driven on the bus (40 R66, R67), whatever its transport outcome: the pins, and the
monitor's bits `M_ASLEEP` (0) and `M_PANEL_BUSY` (2). Nothing else changed, but what `SentFrame` and
`FailedFrame` say. -/
structure DroveFrame (s t : State) (kind : FrameKind) (bytes : List Byte) : Prop where
  dc : t.pins.dc = match kind with
    | .command => s.cfg.dcCmd
    | .data => s.cfg.dcData
  cs : t.pins.cs = !s.cfg.csActive
  sclk : t.pins.sclk = s.cfg.sclkIdle
  mosi : t.pins.mosi = match bytes.getLast? with
    | some b => b.getLsbD 0
    | none => s.pins.mosi
  rst : t.pins.rst = s.pins.rst
  mon : t.mon = { s.mon with
    fault := s.mon.fault ||| (if s.mon.asleep then 0b001#3 else 0#3) ||| (if s.panel.pbusy then 0b100#3 else 0#3) }
  cfg : t.cfg = s.cfg
  bytes : SameBytes s t
  fb : t.fb = s.fb ∧ t.fbEra = s.fbEra
  ctx : t.ctx = s.ctx
  outside : t.env.host = s.env.host ∧ t.env.rdata = s.env.rdata ∧ t.env.turns = s.env.turns

/-- A frame that did not fail (40 R67): its event, the panel's busy event where it is busy-inducing, and
no register changed. -/
structure SentFrame (s t : State) (kind : FrameKind) (bytes : List Byte) (bi : Bool) : Prop where
  drove : DroveFrame s t kind bytes
  trace : t.trace = s.trace ++ [.frame kind bytes]
  regs : t.regs = s.regs
  refresh : t.refresh = s.refresh
  quietPanel : bi = false → t.panel = s.panel
  busyPanel : bi = true → PanelRaised s t s.afterAnswer.answer

/-- A frame that failed, with the abort of its context (40 R67, R68). -/
structure FailedFrame (s t : State) (kind : FrameKind) (bytes : List Byte) : Prop where
  drove : DroveFrame s t kind bytes
  regs : t.regs = { s.regs with fault := s.regs.fault ||| 0x8#32 }
  panel : t.panel = s.panel
  foreground : s.ctx = .fg →
    t.trace = s.trace ++ [.frameFailed kind bytes, .hostOp s.fg.op .transport]
      ∧ t.refresh = { s.refresh with resultCode := .transport }
      ∧ t.fg = { s.fg with active := false } ∧ t.bg = s.bg
  background : s.ctx = .bg →
    t.trace = s.trace ++ [.frameFailed kind bytes] ∧ t.refresh = s.refresh ∧ t.fg = s.fg
      ∧ t.bg = { s.bg with active := false, inSegment := false, err := true }

/-- The frame that a micro-op of a group sends, with its busy-inducing flag. -/
def frameOf : MicroOp → Option (FrameKind × List Byte × Bool)
  | .cmd op bi => some (.command, [op], bi)
  | .data b bs bi => some (.data, b :: bs, bi)
  | .endProg | .row _ _ | .rstp | .waitr | .waitry | .yieldPoint | .assign _ | .havocFb => none

/-- The frames of a wire command pair (30 R60, 40 R73): a command frame, and a data frame if there is a
payload. -/
def pairFrames (p : CmdPair) : List (FrameKind × List Byte) :=
  if p.2 = [] then [(.command, [p.1])] else [(.command, [p.1]), (.data, p.2)]

/-! ### Runs and fairness (60 R125) -/

/-- An infinite run of the machine. DESIGN CHOICE (safe, log 22): it may take block reset at any step and
without end, since the spec limits the platform nowhere. -/
def IsRun (r : Nat → State) : Prop := ∀ n, step (r n) = .next (r (n + 1))

/-- From some step on, the run takes no block reset: what a claim of an end needs beside `Fair` (log 22). -/
def SettledPlatform (r : Nat → State) : Prop := ∃ n, ∀ m, n ≤ m → (r m).nextTurn ≠ .blockReset

/-- The agent of a turn has a step of its own (20 R49, 60 R124). -/
def State.enabled (s : State) : Turn → Bool
  | .host => !s.env.host.isEmpty && !s.held
  | .fg => s.fgEnabled
  | .bg => s.bgEnabled
  | .panelRise => s.panel.ppend
  | .panelFall => s.panel.pbusy && !s.panel.ppend
  | .panelNone => true
  | .blockReset => true

/-- Weak fairness of one kind of turn: it is not enabled for ever without being taken. -/
def WeaklyFair (r : Nat → State) (t : Turn) : Prop :=
  ∀ n, ∃ m, n ≤ m ∧ ((r m).nextTurn = t ∨ (r m).enabled t = false)

/-- The panel's fairness holds only while it is awake (60 R125 (2), (3)). -/
def PanelFair (r : Nat → State) (t : Turn) : Prop :=
  ∀ n, ∃ m, n ≤ m ∧ ((r m).nextTurn = t ∨ (r m).enabled t = false ∨ (r m).mon.asleep = true)

/-- The fairness that every claim of an end rests on (60 R125). DESIGN CHOICE (safe, log 22): R125 says nothing of
block reset, which is no agent of 00 R3, and `Fair` limits it in no way; so that every program ends
(60 R125) follows from `Fair` only together with `SettledPlatform`. -/
def Fair (r : Nat → State) : Prop :=
  WeaklyFair r .host ∧ WeaklyFair r .fg ∧ WeaklyFair r .bg ∧ PanelFair r .panelRise ∧ PanelFair r .panelFall

/-! ### Reset (10 R38) -/

/-- What 10 R38's table gives a state after reset: the refresh registers, the host registers, FG at
the start of the construction program, spelled out as 41 R98 gives it, no BG, the pins (the idle level of
`SCLK` is PRESUMED, log 9), the monitor, no busy event pending, and an empty trace. -/
def State.ResetTable (s : State) : Prop :=
  s.refresh = { fsm := .idle, mode := .fullMode, updated := false, complete := false, resultCode := .ok }
    ∧ s.regs = { arg0 := 0, arg1 := 0, arg2 := 0, result := 0, fault := 0 }
    ∧ s.fg =
        { active := true
          op := .construct
          prog :=
            [.rstp, .waitr] ++ s.cfg.group .swreset ++ [.waitr] ++ s.cfg.group .dem ++ s.cfg.group .borderFull
              ++ s.cfg.group .window ++ s.cfg.group .cursor ++ [.waitr]
              ++ [.assign [.mode .fullMode, .monFullCfgValid true]]
              ++ s.cfg.rows s.cfg.wcfg.writeCur .blank .fg ++ s.cfg.rows s.cfg.wcfg.writePrev .blank .fg
              ++ [.havocFb] ++ s.cfg.group .actFull ++ [.waitr]
              ++ [.assign [.mode (if s.cfg.initPartial then .partialMode else .fullMode)], .endProg]
          pc := 0 }
    ∧ s.bg.active = false ∧ s.bg.inSegment = false ∧ s.bg.err = false
    ∧ s.pins.cs = !s.cfg.csActive ∧ s.pins.rst = !s.cfg.rstActive ∧ s.pins.sclk = s.cfg.sclkIdle
    ∧ s.mon = { asleep := false, fullCfgValid := false, fault := 0 }
    ∧ s.panel.ppend = false
    ∧ s.trace = []

/-! ### Invariants -/

/-- The frame buffer has its canonical form and its size never changes: every written byte lies in `0..FB_SIZE-1`
(10 R32, 43 R116). -/
def State.fbInv (s : State) : Bool := Memory.wf s.fb && Memory.below s.cfg.fbSize s.fb

/-- The reserved bits 31 to 4 of `FAULT` read as 0 (10 R19). -/
def State.faultReserved (s : State) : Bool := s.regs.fault &&& 0xFFFFFFF0#32 == 0#32

/-- Between frames and pulses `CS` and `RST` are inactive and `SCLK` is idle (10 R35). -/
def State.pinsInv (s : State) : Bool :=
  s.pins.cs == !s.cfg.csActive && s.pins.rst == !s.cfg.rstActive && s.pins.sclk == s.cfg.sclkIdle

/-- The three together: what every step keeps of the machine's data, whatever the contexts run. -/
def State.dataInv (s : State) : Bool := s.fbInv && s.faultReserved && s.pinsInv

/-- A program in progress: the pc is inside it, it ends with `END`, and its micro-ops are well formed
(10 R30, 40 R71, R79). -/
def programInv (c : Cfg) (prog : List MicroOp) (pc : Nat) : Bool :=
  decide (pc < prog.length) && prog.getLast? == some .endProg && prog.all (MicroOp.wellFormed c)

/-- Both contexts' programs are in order while they run, and BG is in a segment only while it exists
(10 R28 to R30). -/
def State.contextInv (s : State) : Bool :=
  (!s.fg.active || programInv s.cfg s.fg.prog s.fg.pc) && (!s.bg.active || programInv s.cfg s.bg.prog s.bg.pc)
    && (s.bg.active || !s.bg.inSegment)

/-- The programs that 10 R28's `Expand` gives an operation, of FG (41 R85 to R98, 42 R100). The operand `f` of
`INIT_FULL` was latched at acceptance, and so was the mode of a `SHOW`; a full `SHOW` runs in FG only
without a cooperative runtime. The other operations start no program. -/
def expandsTo (c : Cfg) (op : OpId) (prog : List MicroOp) : Bool :=
  match op with
  | .construct => prog == c.pConstruct
  | .host op =>
    match op.toNat with
    | 0x1 => prog == c.pInit false || prog == c.pInit true
    | 0x4 => !c.asyncRuntime && prog == c.pFullBlk || prog == c.pPart
    | 0x5 => prog == c.pClear
    | 0x6 => prog == c.pSleep
    | 0x7 => prog == pReset
    | 0x8 => prog == pWait
    | _ => false

/-- An active FG runs the program of its own operation (10 R28), and an active BG runs `P_FULL_ASYNC`, under a
cooperative runtime (10 R29, 41 R90). -/
def State.ownPrograms (s : State) : Bool :=
  (!s.fg.active || expandsTo s.cfg s.fg.op s.fg.prog)
    && (!s.bg.active || (s.cfg.asyncRuntime && s.bg.prog == s.cfg.pFullAsync))

/-- The events of the command and payload frames of a list of micro-ops (the bytes of a row are those of
the buffer at its step, 40 R71, so rows are not listed). -/
def frameEvents (ms : List MicroOp) : List Event := (ms.filterMap frameOf).map fun f => .frame f.1 f.2.1

/-- The command and payload frames of the micro-ops that an active BG has executed are in the trace, in
order, after the event of the `SHOW` that started it (42 R102). -/
def State.bgFramesSent (s : State) : Prop :=
  s.bg.active = true → ∃ before after, s.trace = before ++ .hostOp (.host 0x4) .ok :: after
    ∧ (frameEvents (s.bg.prog.take s.bg.pc)).Sublist after

/-- What FG and BG have still to run. -/
def State.fgRest (s : State) : List MicroOp := s.fg.prog.drop s.fg.pc
def State.bgRest (s : State) : List MicroOp := s.bg.prog.drop s.bg.pc

/-- The step that ends an asynchronous refresh (42 R103). -/
def settleOp : MicroOp := .assign [.fsm .idle, .complete true]

/-- While construction runs, `FSM` is `Idle`, no event has been raised and BG does not exist (41 R98). -/
def State.constructInv (s : State) : Bool :=
  !(s.fg.active && s.fg.op == .construct)
    || (s.refresh.fsm == .idle && !s.refresh.updated && !s.refresh.complete && !s.bg.active && !s.bg.inSegment
      && s.fgRest.all MicroOp.keepsRefresh)

/-- A refresh that a transport fault has ended (70 R149): `FSM` is not `Idle`, BG does not run, and FG, if it
runs, writes no refresh register. -/
def State.stuckBusy (s : State) : Bool :=
  s.refresh.fsm != .idle && !s.bg.active && (!s.fg.active || s.fgRest.all MicroOp.keepsRefresh)

/-- The end of `P_FULL_ASYNC`, after the last activation frame (42 R102). -/
def asyncTail : List MicroOp := [.assign [.updated true], .waitry, settleOp, .endProg]

/-- The end of a blocking refresh (41 R89, R91). -/
def blockingTail : List MicroOp := [.assign [.fsm .idle], .endProg]

/-- FG runs a blocking `SHOW` that has not yet returned `FSM` to `Idle`. -/
def State.fgShowing (s : State) : Prop :=
  s.fg.active = true ∧ ∃ pre, s.fgRest = pre ++ blockingTail ∧ pre.all MicroOp.quiet = true

/-- BG is sending: it has yet to set `UPDATED`. -/
def State.bgSending (s : State) : Prop :=
  s.refresh.fsm = .refreshingFull ∧ s.refresh.updated = false ∧ s.refresh.complete = false
    ∧ ∃ pre, s.bgRest = pre ++ asyncTail ∧ pre.all MicroOp.quiet = true

/-- BG has commanded the panel and waits for it to settle, or is about to record that it has. -/
def State.bgSettling (s : State) : Prop :=
  s.refresh.fsm = .refreshingFull ∧ s.refresh.updated = true ∧ s.refresh.complete = false
    ∧ (s.bgRest = [.waitry, settleOp, .endProg] ∨ s.bgRest = [settleOp, .endProg] ∧ s.bg.inSegment = true)

/-- BG has ended the refresh and stands at its `END`, in the same segment (42 R103). -/
def State.bgSettled (s : State) : Prop :=
  s.refresh.fsm = .idle ∧ s.refresh.updated = true ∧ s.refresh.complete = true
    ∧ s.bgRest = [.endProg] ∧ s.bg.inSegment = true

/-- The laws of the refresh state machine, the events and the busy flag (10 R23 to R29, 40 R68, 42 R99, R103, R104):
BG runs only an asynchronous refresh and is in one of its three phases; FG, when it runs anything
but a blocking refresh, writes none of the refresh registers; a busy machine has a refresh in
progress or has `F_TRANSPORT` set. -/
structure State.RefreshInv (s : State) : Prop where
  noSegment : s.bg.active = false → s.bg.inSegment = false
  bgPhase : s.bg.active = true →
    s.cfg.asyncRuntime = true ∧ (s.bgSending ∨ s.bgSettling ∨ s.bgSettled)
  fgKind : s.fg.active = true →
    s.fgRest.all MicroOp.keepsRefresh = true
      ∨ (s.fgShowing ∧ s.bg.active = false ∧ s.refresh.fsm ≠ .idle
          ∧ (s.cfg.asyncRuntime = true → s.refresh.fsm = .refreshingPartial))
  completeUpdated : s.refresh.complete = true → s.refresh.updated = true
  blockingNoEvents : s.cfg.asyncRuntime = false → s.refresh.updated = false ∧ s.refresh.complete = false
  fullNotComplete : s.cfg.asyncRuntime = true → s.refresh.fsm = .refreshingFull → s.refresh.complete = false
  updatedPending : s.refresh.updated = true → s.refresh.complete = false → s.refresh.fsm = .refreshingFull
  busyOrStuck : s.refresh.fsm ≠ .idle → s.bg.active = true ∨ s.fgShowing ∨ s.transportFaulted = true

end Sys2Proof.Machine
end

