-- ==== Sys2Proof/Certificates/Slice0/Obligations.lean ====
section
/-! DEFINITION. The statements for the provers. Each docstring names the rules of spec/ that it formalises.
A statement that gives a whole next state as an update of the old one says its frame with it: every
field that the update does not name is unchanged. `memRead` is the model's read of one byte. -/

open Sys2Proof Sys2Proof.Machine

/-! ### Encoding -/

/-- Words and bytes written out from the encoding tables of 30 R56 and R62 decode to the instructions
they stand for. The operand bytes of the micro-ops and the numbers of the groups are the model's own
(log 7), and so is the order of a word's bytes (log 8). -/
def Obligations.SpecWordsDecode : Prop :=
  decodeHostWord 0x00000001#32 = .initFull ∧ decodeHostWord 0x00000004#32 = .showRefresh
    ∧ decodeHostWord 0x0000000D#32 = .writeByte ∧ decodeHostWord 0x00000000#32 = .reservedOp0
    ∧ decodeHostWord 0x0000000E#32 = .reservedOpE
    ∧ decodeHostWord 0x80000001#32 = .reservedHighBits 0x8000000#28 0x1#4
    ∧ decode .hostWord [0x0B, 0x00, 0x00, 0x00] = .ok (.fill, [])
    ∧ decode .microOp [0x1, 0x12, 0x1] = .ok (.uopCmd 0x12 true, [])
    ∧ decode .microOp [0x3, 0x0, 0x2C, 0x01] = .ok (.uopRow .fb 300, [])
    ∧ decode .microOp [0x8, 0x1, 0x0, 0x4, 0x1, 0x0] = .ok (.uopSet [.fsm .idle, .complete true], [])
    ∧ decode (.wireFrame .command) [0x24] = .ok (.wireCommandFrame 0x24, [])
    ∧ decode (.wireFrame .data) [0x7F, 0xFF] = .ok (.wireDataFrame 0x7F [0xFF], [])
    ∧ decode .wireGroup [0x2] = .ok (.wireBorderFull, [])

/-- Decoding an encoded well-formed instruction gives it back and leaves the bytes after it, for every
instruction and every operand (30 R55, R58, R59, R62; the operand encodings of the micro-ops and groups
are the model's own, log 7, 8). A wire frame ends where `CS` is released (30 R59), so nothing follows it. -/
def Obligations.EncodedInstructionsDecode : Prop :=
  ∀ (c : Cfg) (i : Instr) (rest : List Byte), c.wf = true → i.wellFormed c = true →
    ((∃ k, (encode i).1 = .wireFrame k) → rest = []) →
      decode (encode i).1 ((encode i).2 ++ rest) = .ok (i, rest)

/-- Every `CMD` word is the encoding of the one instruction it decodes to, and that instruction is well
formed: no bit of the word is dropped and no two words read alike (30 R55, R56, R65). -/
def Obligations.CommandWordsReencode : Prop :=
  ∀ (c : Cfg) (w : Word),
    (decodeHostWord w).wellFormed c = true
      ∧ encode (decodeHostWord w)
          = (.hostWord, [w.extractLsb' 0 8, w.extractLsb' 8 8, w.extractLsb' 16 8, w.extractLsb' 24 8])

/-! ### The step -/

/-- A step runs the decoded instruction: where it is the host's turn, its next access writes `v` to `CMD`,
and `ACCEPT = 1`, the step is `exec` of the operation that `v` encodes, at the state in which the turn and
the access have been taken (20 R49, 41 R82). -/
def Obligations.StepRunsAcceptedCommand : Prop :=
  ∀ (s : State) (v : Word) (rest : List Access), s.defined = true → s.nextTurn = .host →
    s.env.host = .write 4 0x00#32 v :: rest → s.fg.active = false → s.bg.inSegment = false →
      step s = exec (decodeHostWord v) s.afterTurn.popAccess

/-- A step runs the current micro-op: FG's where it is FG's turn and BG is in no segment; BG's where it
is BG's turn and BG is in a segment, or FG is not active or stands at a `WAITR` (20 R49). The only thing
around `exec` is that the turn is taken and that the state says which context executes. -/
def Obligations.StepRunsCurrentMicroOp : Prop :=
  (∀ (s : State) (m : MicroOp), s.defined = true → s.nextTurn = .fg → s.fg.active = true →
      s.bg.inSegment = false → s.fg.prog[s.fg.pc]? = some m →
        step s = exec m.toInstr { s.afterTurn with ctx := .fg })
    ∧ ∀ (s : State) (m : MicroOp), s.defined = true → s.nextTurn = .bg → s.bg.active = true →
      (s.bg.inSegment = true ∨ s.fg.active = false ∨ s.fg.prog[s.fg.pc]? = some .waitr) →
      s.bg.prog[s.bg.pc]? = some m →
        step s = exec m.toInstr { s.afterTurn with ctx := .bg }

/-- An agent whose step is not enabled has no step (10 R31, 20 R49): a turn given to it is a step that changes
nothing but the schedule (DESIGN CHOICE, log 2), and a held host stays at its `CMD` write (DEDUCED, log 17). FG while it is not active or BG is
in a segment; BG while it does not exist, or is at a yield point with FG running something else than a
`WAITR`; the host while it has no access left, or its next access is a `CMD` write and `ACCEPT = 0`. -/
def Obligations.DisabledAgentsDoNothing : Prop :=
  ∀ s : State, s.defined = true →
    (s.nextTurn = .fg → (s.fg.active = false ∨ s.bg.inSegment = true) → step s = .next s.afterTurn)
      ∧ (s.nextTurn = .bg →
          (s.bg.active = false
            ∨ s.bg.inSegment = false ∧ s.fg.active = true ∧ s.fg.prog[s.fg.pc]? ≠ some .waitr) →
          step s = .next s.afterTurn)
      ∧ (s.nextTurn = .host → s.env.host = [] → step s = .next s.afterTurn)
      ∧ (s.nextTurn = .host → (s.fg.active = true ∨ s.bg.inSegment = true) →
          (∃ size v rest, s.env.host = .write size 0x00#32 v :: rest) → step s = .next s.afterTurn)

/-- A host program that holds an access of another width than 32 bits, or at an offset that is no multiple
of 4, is refused, whatever the rest of it and whoever's turn it is (20 R43, 60 R118). That the refusal of a run whose
configuration is ill formed too (00 R6) names the configuration, because it is checked first, is the model's
choice (DESIGN CHOICE, log 5). -/
def Obligations.MisalignedAccessRefused : Prop :=
  ∀ (s : State) (size : Nat) (off v : Word),
    (.read size off ∈ s.env.host ∨ .write size off v ∈ s.env.host) → (size ≠ 4 ∨ off.toNat % 4 ≠ 0) →
      step s = .refused (if s.cfg.wf then .hostAccessNotWholeWord else .illFormedConfiguration)

/-! ### The host register window -/

/-- What the host reads at each offset but that of `STATUS`, in one step at its turn, whether or not a
command would be accepted: `CMD` reads as 0, the others as they stand (10 R14, R15, R16, R18, R19), an unmapped
offset as 0 with `F_ILLEGAL` (10 R22). Nothing else changes. -/
def Obligations.HostReadsRegisters : Prop :=
  ∀ (s : State) (off : Word) (rest : List Access), s.defined = true → s.nextTurn = .host →
    s.env.host = .read 4 off :: rest → off ≠ 0x10#32 →
      ∃ t : State, step s = .next t
        ∧ t = { s with
            regs := t.regs
            env := { s.afterTurn.env with host := rest, rdata := t.env.rdata } }
        ∧ SameBytes s t
        ∧ (t.regs = if off ∈ [0x00#32, 0x04#32, 0x08#32, 0x0C#32, 0x14#32, 0x18#32, 0x1C#32, 0x20#32] then s.regs
            else { s.regs with fault := s.regs.fault ||| 0x1#32 })
        ∧ (off = 0x00#32 → t.env.rdata = 0)
        ∧ (off = 0x04#32 → t.env.rdata = s.regs.arg0)
        ∧ (off = 0x08#32 → t.env.rdata = s.regs.arg1)
        ∧ (off = 0x0C#32 → t.env.rdata = s.regs.arg2)
        ∧ (off = 0x14#32 → t.env.rdata = s.regs.result)
        ∧ (off = 0x18#32 → t.env.rdata = s.regs.fault)
        ∧ (off = 0x1C#32 → t.env.rdata = geomWord s.cfg)
        ∧ (off = 0x20#32 → t.env.rdata = configWord s.cfg)
        ∧ (off ∉ [0x00#32, 0x04#32, 0x08#32, 0x0C#32, 0x14#32, 0x18#32, 0x1C#32, 0x20#32] → t.env.rdata = 0)

/-- A read of `STATUS` takes one sample of `BUSY_IN`, which it records in the trace, and changes nothing
else (20 R45). The sample reads the panel's line while it is awake, and the next draw while it is asleep
(60 R124). The host gets the word of the state before the read, with `READY` from that sample (42 R101). A round
of a poll is such a read, and the poll ends when its bit reads as wanted (30 R64). -/
def Obligations.HostReadsStatus : Prop :=
  ∀ (s : State) (a : Access) (rest : List Access), s.defined = true → s.nextTurn = .host →
    s.env.host = a :: rest → (a = .read 4 0x10#32 ∨ ∃ bit want, a = .poll bit want) →
      ∃ (t : State) (b : Bool), step s = .next t
        ∧ (s.mon.asleep = false → b = s.panel.pbusy ∧ t.env.answers = s.env.answers)
        ∧ (s.mon.asleep = true → b = s.afterTurn.answer)
        ∧ t = { s with
            trace := s.trace ++ [.sample b]
            env := { t.env with rdata := s.statusWord b, turns := s.afterTurn.env.turns } }
        ∧ (a = .read 4 0x10#32 → t.env.host = rest)
        ∧ (∀ bit want, a = .poll bit want →
          t.env.host = if (s.statusWord b).getLsbD bit = want then rest else a :: rest)
        ∧ SameBytes s t

/-- The fields of `STATUS`, where `b` is the sample that the read takes: each bit of 10 R17's table, with
the bits 31 to 14 read as 0 and the value 3 of `FSM` never seen (10 R17, R23, R24, R31; 42 R101). -/
def Obligations.StatusFields : Prop :=
  ∀ (s : State) (b : Bool),
    ((s.statusWord b).getLsbD 0 = true ↔ s.refresh.fsm ≠ .idle)
      ∧ ((s.statusWord b).getLsbD 1 = true ↔ s.refresh.fsm = .idle ∧ b = false)
      ∧ ((s.statusWord b).getLsbD 2 = true ↔ s.refresh.mode = .partialMode)
      ∧ (s.statusWord b).extractLsb' 3 2
          = (match s.refresh.fsm with
            | .idle => 0#2
            | .refreshingFull => 1#2
            | .refreshingPartial => 2#2)
      ∧ (s.statusWord b).getLsbD 5 = s.refresh.updated
      ∧ (s.statusWord b).getLsbD 6 = s.refresh.complete
      ∧ ((s.statusWord b).getLsbD 7 = true ↔ s.fg.active = false ∧ s.bg.inSegment = false)
      ∧ (s.statusWord b).extractLsb' 8 3
          = (match s.refresh.resultCode with
            | .ok => 0#3
            | .busy => 1#3
            | .unsupported => 2#3
            | .transport => 3#3
            | .faulted => 4#3)
      ∧ (s.statusWord b).getLsbD 11 = s.bg.active
      ∧ (s.statusWord b).getLsbD 12 = s.bg.err
      ∧ ((s.statusWord b).getLsbD 13 = true ↔ s.regs.fault ≠ 0)
      ∧ (s.statusWord b).extractLsb' 14 18 = 0#18

/-- The fields of `GEOM` and `CONFIG` for every well-formed configuration; and no step changes either
register (10 R20, R21). -/
def Obligations.GeomAndConfigFields : Prop :=
  (∀ s t : State, step s = .next t → geomWord t.cfg = geomWord s.cfg ∧ configWord t.cfg = configWord s.cfg)
    ∧ ∀ c : Cfg, c.wf = true →
    ((geomWord c).extractLsb' 0 16).toNat = c.width
      ∧ ((geomWord c).extractLsb' 16 16).toNat = c.height
      ∧ (configWord c).getLsbD 0 = c.asyncRuntime
      ∧ (configWord c).getLsbD 1 = c.partialSupported
      ∧ (configWord c).getLsbD 2 = c.initPartial
      ∧ (configWord c).extractLsb' 3 13 = 0#13
      ∧ ((configWord c).extractLsb' 16 16).toNat = c.yieldBatch

/-- A host write to any offset but `CMD`, in one step at its turn, whether or not a command would be accepted:
an `ARG` register takes the value and nothing else changes, an operation in progress included (10 R16);
every other offset raises `F_ILLEGAL` and changes nothing else (10 R22). -/
def Obligations.HostWritesRegisters : Prop :=
  ∀ (s : State) (off v : Word) (rest : List Access), s.defined = true → s.nextTurn = .host →
    s.env.host = .write 4 off v :: rest → off ≠ 0x00#32 →
      ∃ t : State, step s = .next t
        ∧ t = { s with regs := t.regs, env := { s.afterTurn.env with host := rest } }
        ∧ SameBytes s t
        ∧ (off = 0x04#32 → t.regs = { s.regs with arg0 := v })
        ∧ (off = 0x08#32 → t.regs = { s.regs with arg1 := v })
        ∧ (off = 0x0C#32 → t.regs = { s.regs with arg2 := v })
        ∧ (off ∉ [0x04#32, 0x08#32, 0x0C#32] → t.regs = { s.regs with fault := s.regs.fault ||| 0x1#32 })

/-! ### The panel and reset -/

/-- The panel's moves (60 R124): `rise` where the panel has yet to raise busy, `fall` where it is busy and
has nothing pending; each changes the panel alone, and the host's list, the draws' answers and the
registers stay. -/
def Obligations.PanelMoves : Prop :=
  ∀ s : State, s.defined = true →
    (s.nextTurn = .panelRise → s.panel.ppend = true →
        step s = .next { s.afterTurn with panel := { pbusy := true, ppend := false } })
      ∧ (s.nextTurn = .panelRise → s.panel.ppend = false → step s = .next s.afterTurn)
      ∧ (s.nextTurn = .panelFall → s.panel.pbusy = true → s.panel.ppend = false →
        step s = .next { s.afterTurn with panel := { pbusy := false, ppend := false } })
      ∧ (s.nextTurn = .panelFall → (s.panel.pbusy = false ∨ s.panel.ppend = true) → step s = .next s.afterTurn)
      ∧ (s.nextTurn = .panelNone → step s = .next s.afterTurn)

/-- The machine right after reset holds the values of 10 R38's table, of the instance's configuration, with FG
at the start of the construction program of 41 R98 (`State.ResetTable` spells it out); no byte of the frame buffer has been written, so every byte is the free value of its address (10 R38;
log 4). An instance with an ill-formed configuration is refused there, with no step; any other has a
first step (00 R6). -/
def Obligations.ResetState : Prop :=
  State.reset.ResetTable ∧ State.reset.cfg = Config.cfg ∧ (∀ a, State.reset.memRead a = Config.fbByte 0 a)
    ∧ if Config.cfg.wf = true then ∃ t, step State.reset = .next t
      else step State.reset = .refused .illFormedConfiguration

/-- Block reset, in one step and from every state, leaves the values of 10 R38's table, with FG at the start of the
construction program of 41 R98; the unspecified levels are draws and every byte of the frame buffer becomes a fresh free value (70 R138). The
configuration stays (00 R4), and so does what is outside the block: the host's program (log 15). -/
def Obligations.BlockResetStep : Prop :=
  ∀ s : State, s.defined = true → s.nextTurn = .blockReset →
    ∃ t : State, step s = .next t
      ∧ t.ResetTable ∧ t.cfg = s.cfg
      ∧ t.panel.pbusy = s.afterTurn.answer ∧ t.pins.dc = s.afterTurn.afterAnswer.answer
      ∧ t.pins.mosi = s.afterTurn.afterAnswer.afterAnswer.answer
      ∧ (∀ a, t.memRead a = Config.fbByte (s.fbEra + 1) a)
      ∧ t.env.host = s.env.host ∧ t.env.rdata = s.env.rdata

/-! ### Host operations: the refresh state machine -/

/-- `INIT_FULL`, `SELECT_FULL`, `SELECT_PARTIAL`, `CLEAR` and `SLEEP` while `BUSY = 1`: `F_NOT_IDLE`, the result
`FAULTED` and the event, and nothing else; a `SELECT_PARTIAL` that is unsupported as well (41 R84; 60 R120, R126). -/
def Obligations.IdleOnlyOperationsFaultWhileBusy : Prop :=
  ∀ (s : State) (i : Instr) (op : BitVec 4), s.refresh.fsm ≠ .idle →
    (i, op) ∈ [(Instr.initFull, 0x1#4), (.selectFull, 0x2#4), (.selectPartial, 0x3#4), (.clear, 0x5#4), (.sleep, 0x6#4)] →
      ∃ t, exec i s = .next t
        ∧ t = { s with
            regs := { s.regs with fault := s.regs.fault ||| 0x2#32 }
            refresh := { s.refresh with resultCode := .faulted }
            trace := s.trace ++ [.hostOp (.host op) .faulted] }
        ∧ SameBytes s t

/-- `INIT_FULL f` while `Idle` starts FG with `P_INIT(f)`, `f = ARG2[0]`, and does nothing else in its
acceptance (41 R85). -/
def Obligations.InitFullStartsItsProgram : Prop :=
  ∀ s : State, s.refresh.fsm = .idle →
    ∃ t, exec .initFull s = .next t
      ∧ t = { s with
          fg :=
            { active := true
              op := .host 0x1
              prog :=
                [.rstp, .waitr] ++ s.cfg.group .swreset ++ [.waitr] ++ s.cfg.group .dem ++ s.cfg.group .borderFull
                  ++ s.cfg.group .window ++ s.cfg.group .cursor
                  ++ (if s.regs.arg2.getLsbD 0 then s.cfg.group .force else [])
                  ++ [.waitr] ++ [.assign [.mode .fullMode, .monFullCfgValid true], .endProg]
              pc := 0 } }
      ∧ SameBytes s t

/-- `SELECT_FULL` and `SELECT_PARTIAL` while `Idle`: the mode, the result and the event; where partial
refresh is not supported, the result `UNSUPPORTED` and the mode as it was. No frame is sent, no fault
is raised, no program starts (41 R86, R87). -/
def Obligations.ModeSelection : Prop :=
  ∀ s : State, s.refresh.fsm = .idle →
    (∃ t, exec .selectFull s = .next t
        ∧ t = { s with
            refresh := { s.refresh with mode := .fullMode, resultCode := .ok }
            trace := s.trace ++ [.hostOp (.host 0x2) .ok] }
        ∧ SameBytes s t)
      ∧ (s.cfg.partialSupported = true → ∃ t, exec .selectPartial s = .next t
        ∧ t = { s with
            refresh := { s.refresh with mode := .partialMode, resultCode := .ok }
            trace := s.trace ++ [.hostOp (.host 0x3) .ok] }
        ∧ SameBytes s t)
      ∧ (s.cfg.partialSupported = false → ∃ t, exec .selectPartial s = .next t
        ∧ t = { s with
            refresh := { s.refresh with resultCode := .unsupported }
            trace := s.trace ++ [.hostOp (.host 0x3) .unsupported] }
        ∧ SameBytes s t)

/-- `SHOW` while a refresh is in progress: the result `BUSY` and its event, and no other state changes,
whatever the mode and the interleaving (41 R88; 42 R105). -/
def Obligations.ShowWhileBusyIsRejected : Prop :=
  ∀ s : State, s.refresh.fsm ≠ .idle →
    ∃ t, exec .showRefresh s = .next t
      ∧ t = { s with
          refresh := { s.refresh with resultCode := .busy }
          trace := s.trace ++ [.hostOp (.host 0x4) .busy] }
      ∧ SameBytes s t

/-- `SHOW` while `Idle`. In full mode without a cooperative runtime, `FSM` becomes `RefreshingFull` and FG starts
with `P_FULL_BLK`, with no result and no event yet (41 R89). In full mode under a cooperative runtime,
`FSM` becomes `RefreshingFull`, both events are cleared, BG starts with `P_FULL_ASYNC` at a yield point, and
the operation finishes at once with `OK`; FG is not started (41 R90; 42 R102). In both, the monitor
records `M_NOINIT` where no full initialisation is valid. In partial mode, whatever the runtime, `FSM`
becomes `RefreshingPartial`, FG starts with `P_PART`, and the full configuration is no longer valid
(41 R91). Nothing else changes. -/
def Obligations.ShowStartsRefresh : Prop :=
  ∀ s : State, s.refresh.fsm = .idle →
    let checked : Monitor :=
      { s.mon with fault := if s.mon.fullCfgValid then s.mon.fault else s.mon.fault ||| 0b010#3 }
    (s.refresh.mode = .fullMode → s.cfg.asyncRuntime = false → ∃ t, exec .showRefresh s = .next t
        ∧ t = { s with
            refresh := { s.refresh with fsm := .refreshingFull }
            mon := checked
            fg :=
              { active := true
                op := .host 0x4
                prog :=
                  s.cfg.rows s.cfg.wcfg.writeCur .fb .fg ++ s.cfg.rows s.cfg.wcfg.writePrev .fb .fg
                    ++ s.cfg.group .actFull ++ [.waitr, .assign [.fsm .idle], .endProg]
                pc := 0 } }
        ∧ SameBytes s t)
      ∧ (s.refresh.mode = .fullMode → s.cfg.asyncRuntime = true → ∃ t, exec .showRefresh s = .next t
        ∧ t = { s with
            refresh :=
              { s.refresh with fsm := .refreshingFull, updated := false, complete := false, resultCode := .ok }
            mon := checked
            bg :=
              { active := true
                prog :=
                  s.cfg.rows s.cfg.wcfg.writeCur .fb .bg ++ s.cfg.rows s.cfg.wcfg.writePrev .fb .bg
                    ++ s.cfg.group .actFull
                    ++ [.assign [.updated true], .waitry, .assign [.fsm .idle, .complete true], .endProg]
                pc := 0
                inSegment := false
                err := false }
            trace := s.trace ++ [.hostOp (.host 0x4) .ok] }
        ∧ SameBytes s t)
      ∧ (s.refresh.mode = .partialMode → ∃ t, exec .showRefresh s = .next t
        ∧ t = { s with
            refresh := { s.refresh with fsm := .refreshingPartial }
            mon := { s.mon with fullCfgValid := false }
            fg :=
              { active := true
                op := .host 0x4
                prog :=
                  s.cfg.group .borderPartial ++ s.cfg.group .ducPartial ++ s.cfg.group .window ++ s.cfg.group .cursor
                    ++ s.cfg.rows s.cfg.wcfg.writeCur .fb .fg ++ s.cfg.group .actPartial
                    ++ [.waitr, .assign [.fsm .idle], .endProg]
                pc := 0 } }
        ∧ SameBytes s t)

/-- `CLEAR` and `SLEEP` while `Idle`, and `RESET` and `WAIT_READY` in any `FSM` state, start FG with their
programs and do nothing else in their acceptance (41 R95, R96, R97; 42 R100). -/
def Obligations.BlockingOperationsStartTheirPrograms : Prop :=
  ∀ s : State,
    let started (op : BitVec 4) (prog : List MicroOp) : State :=
      { s with fg := { active := true, op := .host op, prog := prog, pc := 0 } }
    (s.refresh.fsm = .idle → ∃ t, exec .clear s = .next t
        ∧ t = started 0x5
            (s.cfg.rows s.cfg.wcfg.writeCur .blank .fg ++ s.cfg.rows s.cfg.wcfg.writePrev .blank .fg
              ++ [.havocFb, .endProg])
        ∧ SameBytes s t)
      ∧ (s.refresh.fsm = .idle → ∃ t, exec .sleep s = .next t
        ∧ t = started 0x6 (s.cfg.group .sleep ++ [.assign [.monAsleep true, .monFullCfgValid false], .endProg])
        ∧ SameBytes s t)
      ∧ (∃ t, exec .reset s = .next t ∧ t = started 0x7 [.rstp, .waitr, .endProg] ∧ SameBytes s t)
      ∧ (∃ t, exec .waitReady s = .next t ∧ t = started 0x8 [.waitr, .endProg] ∧ SameBytes s t)

/-! ### Host operations: the frame buffer -/

/-- `SET_PIXEL x, y, v` in range: pixel (x, y) reads `v`; every other pixel, every padding bit, and every byte
but that of the pixel reads as before; the result is `OK`; nothing else changes (43 R110; 20 R40, R41). -/
def Obligations.SetPixel : Prop :=
  ∀ s : State, s.regs.arg0.toNat < s.cfg.width → s.regs.arg1.toNat < s.cfg.height →
    ∃ t, exec .setPixel s = .next t
      ∧ t.pixel s.regs.arg0.toNat s.regs.arg1.toNat = s.regs.arg2.getLsbD 0
      ∧ (∀ x y, x < s.cfg.width → y < s.cfg.height → (x, y) ≠ (s.regs.arg0.toNat, s.regs.arg1.toNat) →
          t.pixel x y = s.pixel x y)
      ∧ (∀ r k, r < s.cfg.height → k < s.cfg.pad →
          (t.memRead (r * s.cfg.stride + s.cfg.stride - 1)).getLsbD k
            = (s.memRead (r * s.cfg.stride + s.cfg.stride - 1)).getLsbD k)
      ∧ (∀ a, a ≠ s.regs.arg1.toNat * s.cfg.stride + s.regs.arg0.toNat / 8 → t.memRead a = s.memRead a)
      ∧ t = { s with
          fb := t.fb
          refresh := { s.refresh with resultCode := .ok }
          trace := s.trace ++ [.hostOp (.host 0x9) .ok] }

/-- `GET_PIXEL x, y` and `READ_BYTE i` in range: `RESULT` is the pixel, or the byte, zero-extended; the
result is `OK`; nothing else changes (43 R111, R114; 20 R40). -/
def Obligations.GetPixelAndReadByte : Prop :=
  ∀ s : State,
    (s.regs.arg0.toNat < s.cfg.width → s.regs.arg1.toNat < s.cfg.height →
        ∃ (t : State) (r : Word), exec .getPixel s = .next t
          ∧ r.toNat = (if (s.memRead (s.regs.arg1.toNat * s.cfg.stride + s.regs.arg0.toNat / 8)).getLsbD
              (7 - s.regs.arg0.toNat % 8) then 1 else 0)
          ∧ t = { s with
              regs := { s.regs with result := r }
              refresh := { s.refresh with resultCode := .ok }
              trace := s.trace ++ [.hostOp (.host 0xA) .ok] }
          ∧ SameBytes s t)
      ∧ (s.regs.arg0.toNat < s.cfg.height * s.cfg.stride →
        ∃ (t : State) (r : Word), exec .readByte s = .next t
          ∧ r.toNat = (s.memRead s.regs.arg0.toNat).toNat
          ∧ t = { s with
              regs := { s.regs with result := r }
              refresh := { s.refresh with resultCode := .ok }
              trace := s.trace ++ [.hostOp (.host 0xC) .ok] }
          ∧ SameBytes s t)

/-- `FILL v`: every byte of the frame buffer, padding included, reads 0xFF or 0x00; the buffer is filled whole
whatever it held; the result is `OK`; nothing else changes (43 R113). No address outside the buffer
changes, where none holds a written byte (`State.fbInv`, an invariant that `DataInvariantKept` states). -/
def Obligations.FillWritesEveryByte : Prop :=
  ∀ s : State,
    ∃ t, exec .fill s = .next t
      ∧ (∀ a, a < s.cfg.height * s.cfg.stride → t.memRead a = if s.regs.arg2.getLsbD 0 then 0xFF#8 else 0x00#8)
      ∧ (s.fbInv = true → ∀ a, s.cfg.height * s.cfg.stride ≤ a → t.memRead a = s.memRead a)
      ∧ t = { s with
          fb := t.fb
          refresh := { s.refresh with resultCode := .ok }
          trace := s.trace ++ [.hostOp (.host 0xB) .ok] }

/-- `WRITE_BYTE i, b` in range: the byte reads `ARG2[7:0]`, every other byte reads as before; the result is
`OK`; nothing else changes (43 R115). -/
def Obligations.WriteByte : Prop :=
  ∀ s : State, s.regs.arg0.toNat < s.cfg.height * s.cfg.stride →
    ∃ t, exec .writeByte s = .next t
      ∧ t.memRead s.regs.arg0.toNat = s.regs.arg2.extractLsb' 0 8
      ∧ (∀ a, a ≠ s.regs.arg0.toNat → t.memRead a = s.memRead a)
      ∧ t = { s with
          fb := t.fb
          refresh := { s.refresh with resultCode := .ok }
          trace := s.trace ++ [.hostOp (.host 0xD) .ok] }

/-- A frame-buffer operation whose coordinate or index is out of range, compared unsigned and reduced by
nothing: `F_RANGE`, the result `FAULTED` and the event; `FB` and `RESULT` as they were (43 preamble; 60 R120). -/
def Obligations.OutOfRangeOperationsFault : Prop :=
  ∀ (s : State) (i : Instr) (op : BitVec 4),
    ((i, op) ∈ [(Instr.setPixel, 0x9#4), (.getPixel, 0xA#4)]
        ∧ (s.cfg.width ≤ s.regs.arg0.toNat ∨ s.cfg.height ≤ s.regs.arg1.toNat)
      ∨ (i, op) ∈ [(Instr.readByte, 0xC#4), (.writeByte, 0xD#4)]
        ∧ s.cfg.height * s.cfg.stride ≤ s.regs.arg0.toNat) →
      ∃ t, exec i s = .next t
        ∧ t = { s with
            regs := { s.regs with fault := s.regs.fault ||| 0x4#32 }
            refresh := { s.refresh with resultCode := .faulted }
            trace := s.trace ++ [.hostOp (.host op) .faulted] }
        ∧ SameBytes s t

/-! ### Reserved commands -/

/-- The reserved commands, each row of the table and then every `CMD` word: `F_ILLEGAL`, the result `FAULTED` and
the event with `OP`; no `ARG` is latched, no program starts, nothing else changes. A word is illegal exactly
when one of bits 31 to 4 is 1 or its `OP` is 0x0, 0xE or 0xF, in any `FSM` state, so the encoding is checked
before the state, the capability and the range. The host's write of such a word has this step once
`ACCEPT = 1` (60 R121, R126; 41 R82; 30 R65). -/
def Obligations.ReservedCommandsFault : Prop :=
  let faults (s : State) (i : Instr) (op : BitVec 4) : Prop :=
    ∃ t, exec i s = .next t
      ∧ t = { s with
          regs := { s.regs with fault := s.regs.fault ||| 0x1#32 }
          refresh := { s.refresh with resultCode := .faulted }
          trace := s.trace ++ [.hostOp (.host op) .faulted] }
      ∧ SameBytes s t
  let illegal (w : Word) : Prop := w.toNat / 16 ≠ 0 ∨ w.toNat % 16 = 0 ∨ w.toNat % 16 = 14 ∨ w.toNat % 16 = 15
  (∀ s : State, faults s .reservedOp0 0x0 ∧ faults s .reservedOpE 0xE ∧ faults s .reservedOpF 0xF
      ∧ ∀ hi op, faults s (.reservedHighBits hi op) op)
    ∧ ∀ w : Word,
      (illegal w ↔ decodeHostWord w ∈ [.reservedOp0, .reservedOpE, .reservedOpF]
          ∨ ∃ hi op, decodeHostWord w = .reservedHighBits hi op)
        ∧ (illegal w → ∀ s : State, faults s (decodeHostWord w) (BitVec.ofNat 4 (w.toNat % 16)))
        ∧ (illegal w → ∀ (s : State) (rest : List Access), s.defined = true → s.nextTurn = .host →
          s.env.host = .write 4 0x00#32 w :: rest → s.fg.active = false → s.bg.inSegment = false →
            ∃ t, step s = .next t
              ∧ t = { s with
                  regs := { s.regs with fault := s.regs.fault ||| 0x1#32 }
                  refresh := { s.refresh with resultCode := .faulted }
                  trace := s.trace ++ [.hostOp (.host (BitVec.ofNat 4 (w.toNat % 16))) .faulted]
                  env := { s.afterTurn.env with host := rest } }
              ∧ SameBytes s t)

/-! ### Micro-ops -/

/-- `CMD` and `DATA` whose frame does not fail, in either context: the frame goes out whole, the busy event
follows where the frame is busy-inducing, and the context advances by one (40 R67, R69, R70). -/
def Obligations.CommandAndDataMicroOpsSend : Prop :=
  ∀ (s : State) (op b : Byte) (bs : List Byte) (bi : Bool), s.answer = true →
    (∃ t, exec (.uopCmd op bi) s = .next t ∧ SentFrame s t .command [op] bi ∧ ContextMoved s t 1 true)
      ∧ ∃ t, exec (.uopData b bs bi) s = .next t ∧ SentFrame s t .data (b :: bs) bi ∧ ContextMoved s t 1 true

/-- `ROW` whose frame does not fail: `ROW FB, r` of a row that exists sends each byte of the row, as the
buffer holds it at this step, with every bit flipped, and flipping them again gives the buffer's bytes;
`ROW BLANK, r` sends `STRIDE` bytes 0xFF whatever the buffer holds. The buffer is only read (40 R71, R72). That
`ROW BLANK, r` sends its row also where `r >= HEIGHT` is the model's choice (DESIGN CHOICE, log 13). -/
def Obligations.RowMicroOpsSend : Prop :=
  ∀ (s : State) (r : Nat), s.answer = true →
    let held := (List.range s.cfg.stride).map fun k => s.memRead (r * s.cfg.stride + k)
    (r < s.cfg.height → ∃ (t : State) (sent : List Byte), exec (.uopRow .fb r) s = .next t
        ∧ sent = held.map (· ^^^ 0xFF#8) ∧ sent.map (· ^^^ 0xFF#8) = held
        ∧ SentFrame s t .data sent false ∧ ContextMoved s t 1 true)
      ∧ ∃ t, exec (.uopRow .blank r) s = .next t
        ∧ SentFrame s t .data (List.replicate s.cfg.stride 0xFF#8) false ∧ ContextMoved s t 1 true

/-- Where the model stops, each under its own name: a `ROW` of a frame-buffer row that does not exist (40 R71
gives `r < HEIGHT`; log 13), in either context; the step of an enabled context (20 R49) whose pc is past its
program, which 10 R30 excludes (log 13); every step of an instance with an ill-formed configuration, which
so has none (00 R6, 60 R118). The two faults are the model's choice. -/
def Obligations.StopsNameTheirReason : Prop :=
  (∀ (s : State) (r : Nat), 1 ≤ s.cfg.height → s.cfg.height ≤ r → exec (.uopRow .fb r) s = .fault (.rowOutOfRange r))
    ∧ (∀ s : State, s.defined = true → s.nextTurn = .fg → s.fg.active = true → s.bg.inSegment = false →
        s.fg.prog.length ≤ s.fg.pc → step s = .fault (.pcOutsideProgram .fg))
    ∧ (∀ s : State, s.defined = true → s.nextTurn = .bg → s.bg.active = true →
        (s.bg.inSegment = true ∨ s.fg.active = false ∨ s.fg.prog[s.fg.pc]? = some .waitr) →
        s.bg.prog.length ≤ s.bg.pc → step s = .fault (.pcOutsideProgram .bg))
    ∧ ∀ s : State, s.cfg.wf = false → step s = .refused .illFormedConfiguration

/-- A frame that fails, of any of the three frame micro-ops and in either context: the frame is in the
trace as failed, `F_TRANSPORT` is set, and the context aborts; `FSM`, `MODE`, `UPDATED`, `COMPLETE` and `FB`
are unchanged (40 R67, R68; 60 R122). That `ROW BLANK, r` has a frame to send also where `r >= HEIGHT` is the model's
choice (DESIGN CHOICE, log 13). -/
def Obligations.FailedFramesAbort : Prop :=
  ∀ (s : State) (op b : Byte) (bs : List Byte) (bi : Bool) (r : Nat), s.answer = false →
    (∃ t, exec (.uopCmd op bi) s = .next t ∧ FailedFrame s t .command [op])
      ∧ (∃ t, exec (.uopData b bs bi) s = .next t ∧ FailedFrame s t .data (b :: bs))
      ∧ (r < s.cfg.height → ∃ t, exec (.uopRow .fb r) s = .next t ∧ FailedFrame s t .data
          ((List.range s.cfg.stride).map fun k => s.memRead (r * s.cfg.stride + k) ^^^ 0xFF#8))
      ∧ ∃ t, exec (.uopRow .blank r) s = .next t ∧ FailedFrame s t .data (List.replicate s.cfg.stride 0xFF#8)

/-- `RSTP`, in either context: the pulse is in the trace, the monitor forgets sleep and configuration, the
panel may become busy, `RST` is inactive again, and the context advances; no register, no refresh
register and no byte changes (40 R75). -/
def Obligations.ResetPulse : Prop :=
  ∀ s : State, ∃ t, exec .uopRstp s = .next t
    ∧ t = { s with
        pins := { s.pins with rst := !s.cfg.rstActive }
        mon := { s.mon with asleep := false, fullCfgValid := false }
        trace := s.trace ++ [.resetPulse]
        panel := t.panel
        fg := t.fg
        bg := t.bg
        env := t.env }
    ∧ PanelRaised s t s.answer ∧ ContextMoved s t 1 true ∧ SameBytes s t
    ∧ t.env.host = s.env.host ∧ t.env.rdata = s.env.rdata ∧ t.env.turns = s.env.turns

/-- `WAITR`, in either context, takes one sample: the panel's line while it is awake, the next draw while
it is asleep; busy, the pc stays; not busy, it advances by one. Nothing else changes (40 R76; 60 R124). Executed
by BG, it waits inside BG's segment, as 20 R49 says of a BG step that it does not name; that `WAITR` has a
meaning in BG, where no program holds one, is the model's choice (DESIGN CHOICE, log 12). -/
def Obligations.BlockingWait : Prop :=
  ∀ s : State, ∃ (t : State) (busy : Bool), exec .uopWaitr s = .next t
    ∧ (s.mon.asleep = false → busy = s.panel.pbusy ∧ t.env = s.env)
    ∧ (s.mon.asleep = true → busy = s.answer ∧ t.env = s.afterAnswer.env)
    ∧ t = { s with trace := s.trace ++ [.sample busy], fg := t.fg, bg := t.bg, env := t.env }
    ∧ ContextMoved s t (if busy then 0 else 1) true ∧ SameBytes s t

/-- `WAITRY` takes one sample as `WAITR` does: busy, it is a yield point and the pc stays; not busy, BG's
segment goes on past it (40 R77). `YIELD` ends BG's segment and advances (40 R78). Executed by FG, which
no program of the machine does, they act on FG's pc (log 12). -/
def Obligations.CooperativeWaitAndYield : Prop :=
  ∀ s : State,
    (∃ (t : State) (busy : Bool), exec .uopWaitry s = .next t
        ∧ (s.mon.asleep = false → busy = s.panel.pbusy ∧ t.env = s.env)
        ∧ (s.mon.asleep = true → busy = s.answer ∧ t.env = s.afterAnswer.env)
        ∧ t = { s with trace := s.trace ++ [.sample busy], fg := t.fg, bg := t.bg, env := t.env }
        ∧ (busy = true → t.fg = s.fg ∧ t.bg = { s.bg with inSegment := false })
        ∧ (busy = false → ContextMoved s t 1 true) ∧ SameBytes s t)
      ∧ ∃ t, exec .uopYield s = .next t
        ∧ t = { s with fg := t.fg, bg := t.bg } ∧ ContextMoved s t 1 false ∧ SameBytes s t

/-- `SET`, in either context, writes every field of its list in one step and no other, for every list
that names a field at most once; then the context advances (40 R79). -/
def Obligations.SetWritesListedFields : Prop :=
  ∀ (s : State) (ps : List Assign), assignsDistinct ps = true →
    ∃ t, exec (.uopSet ps) s = .next t
      ∧ (∀ v, .fsm v ∈ ps → t.refresh.fsm = v)
      ∧ (∀ v, .mode v ∈ ps → t.refresh.mode = v)
      ∧ (∀ v, .updated v ∈ ps → t.refresh.updated = v)
      ∧ (∀ v, .complete v ∈ ps → t.refresh.complete = v)
      ∧ (∀ v, .monAsleep v ∈ ps → t.mon.asleep = v)
      ∧ (∀ v, .monFullCfgValid v ∈ ps → t.mon.fullCfgValid = v)
      ∧ ((∀ v, .fsm v ∉ ps) → t.refresh.fsm = s.refresh.fsm)
      ∧ ((∀ v, .mode v ∉ ps) → t.refresh.mode = s.refresh.mode)
      ∧ ((∀ v, .updated v ∉ ps) → t.refresh.updated = s.refresh.updated)
      ∧ ((∀ v, .complete v ∉ ps) → t.refresh.complete = s.refresh.complete)
      ∧ ((∀ v, .monAsleep v ∉ ps) → t.mon.asleep = s.mon.asleep)
      ∧ ((∀ v, .monFullCfgValid v ∉ ps) → t.mon.fullCfgValid = s.mon.fullCfgValid)
      ∧ t.refresh.resultCode = s.refresh.resultCode ∧ t.mon.fault = s.mon.fault
      ∧ t = { s with refresh := t.refresh, mon := t.mon, fg := t.fg, bg := t.bg }
      ∧ ContextMoved s t 1 true ∧ SameBytes s t

/-- `HAVOC_FB`, in either context: every byte of `FB` becomes a fresh free value, whatever was written before;
the context advances; nothing else changes (40 R80; log 4). -/
def Obligations.HavocFrameBuffer : Prop :=
  ∀ s : State, ∃ t, exec .uopHavocFb s = .next t
    ∧ (∀ a, t.memRead a = Config.fbByte (s.fbEra + 1) a)
    ∧ t = { s with fb := t.fb, fbEra := t.fbEra, fg := t.fg, bg := t.bg }
    ∧ ContextMoved s t 1 true

/-- `END`: in FG the result `OK`, the event of the operation that FG ran, and FG is no longer active; in BG,
BG is no longer active and in no segment. The pc stays. Its code is 0x0 (40 R81). -/
def Obligations.EndOfProgram : Prop :=
  decode .microOp [0x0] = .ok (.uopEnd, []) ∧ ∀ s : State, ∃ t, exec .uopEnd s = .next t
    ∧ (s.ctx = .fg → t = { s with
        refresh := { s.refresh with resultCode := .ok }
        trace := s.trace ++ [.hostOp s.fg.op .ok]
        fg := { s.fg with active := false } })
    ∧ (s.ctx = .bg → t = { s with bg := { s.bg with active := false, inSegment := false } })
    ∧ SameBytes s t

/-! ### Wire frames and groups -/

/-- A wire frame (30 R58) is one `Emit` of the context executing, without a pc (log 1): sent, it changes no
context; failed, the context aborts (40 R67, R68). -/
def Obligations.WireFramesEmit : Prop :=
  ∀ (s : State) (op b : Byte) (bs : List Byte),
    (s.answer = true → (∃ t, exec (.wireCommandFrame op) s = .next t ∧ SentFrame s t .command [op] false
          ∧ t.fg = s.fg ∧ t.bg = s.bg)
        ∧ ∃ t, exec (.wireDataFrame b bs) s = .next t ∧ SentFrame s t .data (b :: bs) false
          ∧ t.fg = s.fg ∧ t.bg = s.bg)
      ∧ (s.answer = false → (∃ t, exec (.wireCommandFrame op) s = .next t ∧ FailedFrame s t .command [op])
        ∧ ∃ t, exec (.wireDataFrame b bs) s = .next t ∧ FailedFrame s t .data (b :: bs))

/-- A wire command group (30 R60) stands in a program as its expansion (00 R11, 40 R73, R74): the micro-ops of
the group, or of the row loop of a register, come before the current micro-op of the context executing, and
nothing else changes (log 1). -/
def Obligations.WireGroupsExpand : Prop :=
  ∀ (s : State) (src : RowSrc) (i : Instr) (ops : List MicroOp),
    (i, ops) ∈ [(Instr.wireSwreset, s.cfg.group .swreset), (.wireDem, s.cfg.group .dem),
        (.wireBorderFull, s.cfg.group .borderFull), (.wireBorderPartial, s.cfg.group .borderPartial),
        (.wireDucPartial, s.cfg.group .ducPartial), (.wireWindow, s.cfg.group .window),
        (.wireCursor, s.cfg.group .cursor), (.wireActFull, s.cfg.group .actFull),
        (.wireActPartial, s.cfg.group .actPartial), (.wireSleep, s.cfg.group .sleep), (.wireForce, s.cfg.group .force),
        (.wireWriteCur src, s.cfg.rows s.cfg.wcfg.writeCur src s.ctx),
        (.wireWritePrev src, s.cfg.rows s.cfg.wcfg.writePrev src s.ctx)] →
      ∃ t, exec i s = .next t
        ∧ (s.ctx = .fg → t = { s with
            fg := { s.fg with prog := s.fg.prog.take s.fg.pc ++ ops ++ s.fg.prog.drop s.fg.pc } })
        ∧ (s.ctx = .bg → t = { s with
            bg := { s.bg with prog := s.bg.prog.take s.bg.pc ++ ops ++ s.bg.prog.drop s.bg.pc } })
        ∧ SameBytes s t

/-- A group's expansion sends, for its pairs in list order, a command frame of the opcode and, where there
is a payload, a data frame of it; the last frame alone may be busy-inducing, and is exactly when the
group is one of `BUSY_GROUPS`; a group without pairs expands to nothing, and in a well-formed
configuration only `FORCE` may be one (40 R73; 00 R6 WF6). -/
def Obligations.GroupExpansion : Prop :=
  ∀ (c : Cfg) (g : GroupName),
    ∃ frames : List (FrameKind × List Byte × Bool), (c.group g).map frameOf = frames.map some
      ∧ frames.map (fun f => (f.1, f.2.1)) = (c.wcfg.group g).flatMap pairFrames
      ∧ (∀ n (h : n < frames.length), frames[n].2.2 = (decide (n + 1 = frames.length) && c.busyGroups.contains g))
      ∧ (c.wcfg.group g = [] ↔ c.group g = [])
      ∧ (c.wf = true → c.group g = [] → g = .force)

/-- The full-mode and the partial-mode border codes put different frames on the wire, for every
well-formed configuration, whatever is busy-inducing (41 R92; 00 R6 WF4). -/
def Obligations.BorderFramesDiffer : Prop :=
  ∀ c : Cfg, c.wf = true →
    (c.group .borderFull).filterMap (fun m => (frameOf m).map fun f => (f.1, f.2.1))
      ≠ (c.group .borderPartial).filterMap (fun m => (frameOf m).map fun f => (f.1, f.2.1))

/-- The row loop (40 R71, R74; 41 R93; 42 R102). Its micro-ops: one `CMD` of the register's opcode, then `ROW` for each
row in ascending order; in BG a `YIELD` after every `YIELD_BATCH`-th row, counted from the loop's own start,
and in FG none. Its run in FG: where FG stands before the loop, has the turns, and no frame fails, its
steps send one command frame of the opcode and then exactly `HEIGHT` data frames in ascending row
order: the rows of the buffer inverted, or `0xFF` bytes; FG stands after the loop, and no byte of the
buffer has changed (20 R51). Its run in BG, with no FG active: the same frames; BG stands after the loop, in
its segment unless the loop's last row ended it (20 R49). -/
def Obligations.RowPassSendsEveryRow : Prop :=
  let sent (s : State) (reg : Byte) (src : RowSrc) : List Event :=
    .frame .command [reg] :: (List.range s.cfg.height).map fun r =>
      .frame .data ((List.range s.cfg.stride).map fun k =>
        match src with
        | .fb => s.memRead (r * s.cfg.stride + k) ^^^ 0xFF#8
        | .blank => 0xFF#8)
  (∀ (c : Cfg) (reg : Byte) (src : RowSrc),
    c.rows reg src .fg = .cmd reg false :: (List.range c.height).map (fun r => .row src r)
      ∧ c.rows reg src .bg = .cmd reg false :: (List.range c.height).flatMap (fun r =>
          if c.yieldBatch ∣ r + 1 then [.row src r, .yieldPoint] else [.row src r])
      ∧ (c.wf = true → (c.rows reg src .bg).length = 1 + c.height + c.height / c.yieldBatch))
    ∧ (∀ (s : State) (reg : Byte) (src : RowSrc) (rest : List MicroOp) (turns : List Turn) (answers : List Bool),
      s.defined = true → s.fg.active = true → s.bg.inSegment = false →
      s.fg.prog.drop s.fg.pc = s.cfg.rows reg src .fg ++ rest →
      s.env.turns = List.replicate (s.cfg.height + 1) .fg ++ turns →
      s.env.answers = List.replicate (s.cfg.height + 1) true ++ answers →
        ∃ t, Host.Core.run Sys2Proof.core (s.cfg.height + 1) s = .next t
          ∧ t.trace = s.trace ++ sent s reg src
          ∧ t.fg = { s.fg with pc := s.fg.pc + (s.cfg.height + 1) } ∧ t.bg = s.bg
          ∧ t.regs = s.regs ∧ t.refresh = s.refresh ∧ t.panel = s.panel
          ∧ t.env = { s.env with turns := turns, answers := answers }
          ∧ SameBytes s t)
    ∧ ∀ (s : State) (reg : Byte) (src : RowSrc) (rest : List MicroOp) (turns : List Turn) (answers : List Bool),
      let steps := 1 + s.cfg.height + s.cfg.height / s.cfg.yieldBatch
      s.defined = true → s.bg.active = true → s.fg.active = false →
      s.bg.prog.drop s.bg.pc = s.cfg.rows reg src .bg ++ rest →
      s.env.turns = List.replicate steps .bg ++ turns →
      s.env.answers = List.replicate (s.cfg.height + 1) true ++ answers →
        ∃ t, Host.Core.run Sys2Proof.core steps s = .next t
          ∧ t.trace = s.trace ++ sent s reg src
          ∧ t.bg = { s.bg with
              pc := s.bg.pc + steps
              inSegment := decide (s.cfg.height % s.cfg.yieldBatch ≠ 0) }
          ∧ t.fg = s.fg ∧ t.regs = s.regs ∧ t.refresh = s.refresh ∧ t.panel = s.panel
          ∧ t.env = { s.env with turns := turns, answers := answers }
          ∧ SameBytes s t

/-- The levels of the pins during one frame (40 R66): a receiver that takes `MOSI` at each clock while `CS` is
active, and the kind from `DC` (30 R59), reads exactly the frame; while `CS` is active `DC` holds the
frame's level; `RST` does not move; and the frame ends with `CS` inactive and `SCLK` idle (10 R35). That a
bit is taken when `SCLK` leaves its idle level is the model's (log 9). -/
def Obligations.FrameWaveformIsReceived : Prop :=
  ∀ (c : Cfg) (p : Pins) (kind : FrameKind) (bytes : List Byte),
    c.dcCmd ≠ c.dcData → p.cs = !c.csActive → p.sclk = c.sclkIdle →
      receiveFrame c (frameWave c p kind bytes) = some (kind, bytes)
        ∧ (∀ q ∈ frameWave c p kind bytes, q.rst = p.rst ∧ (q.cs = c.csActive → q.dc = dcLevel c kind))
        ∧ (frameWave c p kind bytes).getLast? = some (p.afterFrame c kind bytes)
        ∧ (p.afterFrame c kind bytes).cs = !c.csActive ∧ (p.afterFrame c kind bytes).sclk = c.sclkIdle

/-! ### Geometry -/

/-- Index arithmetic is exact for every well-formed configuration: the bounds of 20 R46, the padding of
00 R5, every pixel's byte inside the buffer, and two different pixels never in the same bit (20 R40). -/
def Obligations.IndexArithmeticIsExact : Prop :=
  ∀ c : Cfg, c.wf = true →
    c.stride ≤ 8192 ∧ c.fbSize ≤ 536862720 ∧ c.pad ≤ 7 ∧ c.width + c.pad = 8 * c.stride
      ∧ (∀ r, r < c.height → r * c.stride + c.stride ≤ c.fbSize)
      ∧ (∀ x y, x < c.width → y < c.height → c.pixelAddr x y < c.fbSize)
      ∧ ∀ x y x' y', x < c.width → x' < c.width → c.pixelAddr x y = c.pixelAddr x' y' →
          pixelBit x = pixelBit x' → x = x' ∧ y = y'

/-! ### Rules about the whole machine -/

/-- Only `SELECT_FULL`, `SELECT_PARTIAL` and a `SET` that lists `MODE` change the mode in a step, besides block
reset; of the machine's programs only `P_INIT` and `P_CONSTRUCT` hold such a `SET`; and where the active contexts
run the programs of their operations (`State.ownPrograms`, which `ProgramInvariantKept` says every step
keeps), only `INIT_FULL` and construction change the mode by one (10 R25; 41 R94). -/
def Obligations.OnlyModeSelectionWritesMode : Prop :=
  (∀ s t : State, step s = .next t → t.refresh.mode ≠ s.refresh.mode →
      s.nextTurn = .blockReset ∨ s.executes = some .selectFull ∨ s.executes = some .selectPartial
        ∨ ∃ ps v, s.executes = some (.uopSet ps) ∧ .mode v ∈ ps)
    ∧ (∀ (c : Cfg) (ps : List Assign) (v : Mode),
      .assign ps ∈ c.pFullBlk ++ c.pFullAsync ++ c.pPart ++ c.pClear ++ c.pSleep ++ pReset ++ pWait → .mode v ∉ ps)
    ∧ ∀ s t : State, s.ownPrograms = true → step s = .next t → t.refresh.mode ≠ s.refresh.mode →
      s.nextTurn = .blockReset ∨ s.executes = some .selectFull ∨ s.executes = some .selectPartial
        ∨ s.nextTurn = .fg ∧ (s.fg.op = .host 0x1 ∨ s.fg.op = .construct)

/-- The only writers of the frame buffer and of `RESULT`, besides block reset: a byte that reads differently
after a step was written by `SET_PIXEL`, `FILL`, `WRITE_BYTE` or `HAVOC_FB`, never by a `ROW` or another
micro-op (43 R116); `RESULT` is written by `GET_PIXEL` and `READ_BYTE` alone (10 R18). -/
def Obligations.OnlyWritersOfBufferAndResult : Prop :=
  ∀ s t : State, step s = .next t → s.nextTurn ≠ .blockReset →
    (∀ a, t.memRead a ≠ s.memRead a →
        s.executes = some .setPixel ∨ s.executes = some .fill ∨ s.executes = some .writeByte
          ∨ s.executes = some .uopHavocFb)
      ∧ (t.regs.result ≠ s.regs.result → s.executes = some .getPixel ∨ s.executes = some .readByte)

/-- What a step never undoes: no step changes the configuration (00 R4); a step other than block reset clears no
bit of `FAULT` and sets at most one (10 R19; 60 R119, R126), clears no bit of `MON_FAULT` (10 R36), and only
appends to the trace (00 R12). -/
def Obligations.FaultsAreStickyAndTraceGrows : Prop :=
  ∀ s t : State, step s = .next t →
    t.cfg = s.cfg
      ∧ (s.nextTurn ≠ .blockReset →
        (t.regs.fault = s.regs.fault ∨ ∃ b, b < 4 ∧ t.regs.fault = s.regs.fault ||| (1#32 <<< b))
          ∧ s.mon.fault &&& t.mon.fault = s.mon.fault
          ∧ ∃ es, t.trace = s.trace ++ es ∧ es.length ≤ 2)

/-- Nothing reads the LUT (10 R34), nor the durations (00 R4, R10; 70 R151; that a delay takes no modelled time
is log 14), nor the base address of the register window (20 R47; log 20): two states whose configurations
differ in these alone take the same step and differ in these alone after it. -/
def Obligations.LutAndDurationsAreNotRead : Prop :=
  ∀ (s t : State) (lut : List Byte) (poll active recover base : Nat),
    let changed (u : State) : State :=
      { u with cfg :=
        { u.cfg with lut := lut, pollInterval := poll, tRstActive := active, tRstRecover := recover, hostBase := base } }
    step s = .next t → step (changed s) = .next (changed t)

/-- Nothing reads `MON_FAULT` or `mon_full_cfg_valid` (10 R36): two states that differ in these alone take the
same step, and after it differ in these alone; the trace is the same. -/
def Obligations.MonitorIsNotRead : Prop :=
  ∀ (s t : State) (fault : BitVec 3) (valid : Bool),
    step s = .next t →
      ∃ t' : State, step { s with mon := { s.mon with fault := fault, fullCfgValid := valid } } = .next t'
        ∧ t = { t' with mon := { t'.mon with fault := t.mon.fault, fullCfgValid := t.mon.fullCfgValid } }

/-! ### Invariants -/

/-- Every step keeps the machine's data in order: the buffer's canonical form with every written byte inside
it (10 R32, 43 R116), the reserved bits of `FAULT` zero (10 R19), and between steps `CS` and `RST` inactive
with `SCLK` idle (10 R35). -/
def Obligations.DataInvariantKept : Prop :=
  ∀ s t : State, s.dataInv = true → step s = .next t → t.dataInv = true

/-- Every step keeps both programs in order: while a context runs, its pc is inside its program, which
ends with `END` and holds no row outside the buffer; and BG is in a segment only while it exists
(10 R28, R29, R30). Every step keeps that an active context runs the program of its own operation (10 R28,
R29: `Expand(fg_op, …)` and `P_FULL_ASYNC`); and that the command and payload frames of what BG has executed
are in the trace, after the event of its `SHOW` (42 R102). -/
def Obligations.ProgramInvariantKept : Prop :=
  (∀ s t : State, s.contextInv = true → step s = .next t → t.contextInv = true)
    ∧ (∀ s t : State, s.ownPrograms = true → step s = .next t → t.ownPrograms = true)
    ∧ ∀ s t : State, s.bgFramesSent → step s = .next t → t.bgFramesSent

/-- Every step keeps the laws of the refresh state machine, of the events and of the busy flag
(`State.RefreshInv`: 10 R23 to R29; 40 R68; 42 R99, R103, R104). That BG runs on with `FSM = Idle` between its
last `SET` and its `END` is 42 R103's reading, not 10 R29's (log 21). -/
def Obligations.RefreshInvariantKept : Prop :=
  ∀ s t : State, s.RefreshInv → step s = .next t → t.RefreshInv

/-- While construction runs, every step leaves `FSM` idle, no event raised and no BG (41 R98). -/
def Obligations.ConstructionStaysIdle : Prop :=
  ∀ s t : State, s.constructInv = true → step s = .next t → t.constructInv = true

/-- The machine right after reset meets every invariant. -/
def Obligations.ResetMeetsTheInvariants : Prop :=
  State.reset.dataInv = true ∧ State.reset.contextInv = true ∧ State.reset.RefreshInv
    ∧ State.reset.constructInv = true ∧ State.reset.ownPrograms = true ∧ State.reset.bgFramesSent

/-- In a state whose programs are in order, with a well-formed configuration and a host program of whole
words, every step completes, whoever's turn it is: no host operation, no micro-op and no register access
stops the machine (60 R118: a fault is a sticky bit, and the EPDC keeps stepping). -/
def Obligations.EveryStepCompletes : Prop :=
  ∀ s : State, s.contextInv = true → s.cfg.wf = true → s.hostProgramValid = true → ∃ t, step s = .next t

/-- The transitions of the refresh state machine (41 R83, 10 R23): `FSM` leaves `Idle` only by an accepted
`SHOW`, to the state of the mode, and returns to `Idle` only by the `SET` that ends a refresh; no other
step but block reset changes it. -/
def Obligations.RefreshTransitions : Prop :=
  ∀ s t : State, s.RefreshInv → step s = .next t → s.nextTurn ≠ .blockReset → t.refresh.fsm ≠ s.refresh.fsm →
    (s.refresh.fsm = .idle ∧ s.executes = some .showRefresh
        ∧ t.refresh.fsm = (match s.refresh.mode with
          | .fullMode => .refreshingFull
          | .partialMode => .refreshingPartial))
      ∨ (t.refresh.fsm = .idle
        ∧ (s.nextTurn = .fg ∧ s.executes = some (.uopSet [.fsm .idle])
          ∨ s.nextTurn = .bg ∧ s.executes = some (.uopSet [.fsm .idle, .complete true])))

/-- The laws of the two events (42 R104, R103): `UPDATED` is raised only by BG's own `SET` during a full refresh;
`COMPLETE` is raised only in the step that returns `FSM` to `Idle`, and never before `UPDATED`; neither
falls but by an accepted `SHOW` that found `FSM = Idle`, or by block reset. Where the contexts run the programs
of their operations and BG's frames are in the trace (which `ProgramInvariantKept` says every step keeps),
BG raises `UPDATED` after both passes over the rows and the activation, whose frames are all in the trace
after the event of the `SHOW`. -/
def Obligations.EventLaws : Prop :=
  (∀ s t : State, s.RefreshInv → step s = .next t → s.nextTurn ≠ .blockReset →
    (s.refresh.updated = false → t.refresh.updated = true →
        s.nextTurn = .bg ∧ s.executes = some (.uopSet [.updated true]) ∧ s.refresh.fsm = .refreshingFull)
      ∧ (s.refresh.complete = false → t.refresh.complete = true →
        s.nextTurn = .bg ∧ s.refresh.updated = true ∧ t.refresh.updated = true
          ∧ s.refresh.fsm = .refreshingFull ∧ t.refresh.fsm = .idle)
      ∧ (s.refresh.updated = true ∧ t.refresh.updated = false
          ∨ s.refresh.complete = true ∧ t.refresh.complete = false →
        s.executes = some .showRefresh ∧ s.refresh.fsm = .idle
          ∧ t.refresh.updated = false ∧ t.refresh.complete = false))
    ∧ ∀ s t : State, s.ownPrograms = true → s.bgFramesSent → step s = .next t → s.nextTurn ≠ .blockReset →
      s.refresh.updated = false → t.refresh.updated = true →
        s.bg.prog.take s.bg.pc
            = s.cfg.rows s.cfg.wcfg.writeCur .fb .bg ++ s.cfg.rows s.cfg.wcfg.writePrev .fb .bg ++ s.cfg.group .actFull
          ∧ ∃ before after, s.trace = before ++ .hostOp (.host 0x4) .ok :: after
            ∧ (frameEvents (s.cfg.group .actFull)).Sublist after

/-- A refresh that a transport fault has ended stays in progress for good: every step but block reset leaves
`FSM` as it is, and `BUSY = 1` with it (40 R68; 70 R149). -/
def Obligations.StuckBusyStays : Prop :=
  ∀ s t : State, s.stuckBusy = true → step s = .next t → s.nextTurn ≠ .blockReset →
    t.stuckBusy = true ∧ t.refresh.fsm = s.refresh.fsm

/-- No cancellation (42 R106). A BG in flight is as it was after every step of the host, so after the acceptance
of whatever `CMD` word, and after every step of FG, so while the program of a host operation runs.
`RESET` in particular starts its program, which pulses the panel, and leaves BG as it is. Only BG's own
`END`, or a transport fault of BG's own frame, ends BG, besides block reset. -/
def Obligations.NoHostOperationChangesBackground : Prop :=
  (∀ s t : State, s.RefreshInv → s.bg.active = true → (s.nextTurn = .host ∨ s.nextTurn = .fg) →
      step s = .next t → t.bg = s.bg)
    ∧ (∀ s : State, ∃ t, exec .reset s = .next t ∧ t.fg.prog = [.rstp, .waitr, .endProg] ∧ t.bg = s.bg)
    ∧ ∀ s t : State, step s = .next t → s.nextTurn ≠ .blockReset → s.bg.active = true → t.bg.active = false →
      s.nextTurn = .bg
        ∧ (s.executes = some .uopEnd
          ∨ ∃ kind bytes, t.trace = s.trace ++ [.frameFailed kind bytes] ∧ t.regs.fault.getLsbD 3 = true
            ∧ t.bg = { s.bg with active := false, inSegment := false, err := true })

/-- A wait of an awake panel ends two steps after the panel falls: the fall, then FG's `WAITR`, which samples
not busy and advances (40 R76; 60 R124, R125). -/
def Obligations.WaitEndsAfterThePanelFalls : Prop :=
  ∀ (s : State) (turns : List Turn), s.defined = true → s.env.turns = .panelFall :: .fg :: turns →
    s.mon.asleep = false → s.panel = { pbusy := true, ppend := false } → s.fg.active = true →
    s.bg.inSegment = false → s.fg.prog[s.fg.pc]? = some .waitr →
      ∃ t, Host.Core.run Sys2Proof.core 2 s = .next t
        ∧ t = { s with
            trace := s.trace ++ [.sample false]
            fg := { s.fg with pc := s.fg.pc + 1 }
            panel := { pbusy := false, ppend := false }
            ctx := .fg
            env := { s.env with turns := turns } }
        ∧ SameBytes s t
end

