-- ==== Sys2Proof/Laws/State.lean ====
section
/-! SUPPORT. One lemma per update and field of State: what each shared update leaves in every field. -/

namespace Sys2Proof.Machine

/-- Two states that agree in every field are equal. -/
@[ext] theorem State.ext_fields {s t : State} (cfg : s.cfg = t.cfg) (regs : s.regs = t.regs)
    (refresh : s.refresh = t.refresh) (fg : s.fg = t.fg) (bg : s.bg = t.bg) (fb : s.fb = t.fb)
    (fbEra : s.fbEra = t.fbEra) (pins : s.pins = t.pins) (mon : s.mon = t.mon) (panel : s.panel = t.panel)
    (trace : s.trace = t.trace) (ctx : s.ctx = t.ctx) (env : s.env = t.env) : s = t := by
  cases s; cases t; simp_all

/-! ### `log` -/

@[simp] theorem State.log_cfg (s : State) (e : Event) : (s.log e).cfg = s.cfg := rfl
@[simp] theorem State.log_regs (s : State) (e : Event) : (s.log e).regs = s.regs := rfl
@[simp] theorem State.log_refresh (s : State) (e : Event) : (s.log e).refresh = s.refresh := rfl
@[simp] theorem State.log_fg (s : State) (e : Event) : (s.log e).fg = s.fg := rfl
@[simp] theorem State.log_bg (s : State) (e : Event) : (s.log e).bg = s.bg := rfl
@[simp] theorem State.log_fb (s : State) (e : Event) : (s.log e).fb = s.fb := rfl
@[simp] theorem State.log_fbEra (s : State) (e : Event) : (s.log e).fbEra = s.fbEra := rfl
@[simp] theorem State.log_pins (s : State) (e : Event) : (s.log e).pins = s.pins := rfl
@[simp] theorem State.log_mon (s : State) (e : Event) : (s.log e).mon = s.mon := rfl
@[simp] theorem State.log_panel (s : State) (e : Event) : (s.log e).panel = s.panel := rfl
@[simp] theorem State.log_trace (s : State) (e : Event) : (s.log e).trace = s.trace ++ [e] := rfl
@[simp] theorem State.log_ctx (s : State) (e : Event) : (s.log e).ctx = s.ctx := rfl
@[simp] theorem State.log_env (s : State) (e : Event) : (s.log e).env = s.env := rfl

/-! ### `raiseFault` -/

@[simp] theorem State.raiseFault_cfg (s : State) (b : Nat) : (s.raiseFault b).cfg = s.cfg := rfl
@[simp] theorem State.raiseFault_regs (s : State) (b : Nat) :
    (s.raiseFault b).regs = { s.regs with fault := s.regs.fault ||| (1#32 <<< b) } := rfl
@[simp] theorem State.raiseFault_refresh (s : State) (b : Nat) : (s.raiseFault b).refresh = s.refresh := rfl
@[simp] theorem State.raiseFault_fg (s : State) (b : Nat) : (s.raiseFault b).fg = s.fg := rfl
@[simp] theorem State.raiseFault_bg (s : State) (b : Nat) : (s.raiseFault b).bg = s.bg := rfl
@[simp] theorem State.raiseFault_fb (s : State) (b : Nat) : (s.raiseFault b).fb = s.fb := rfl
@[simp] theorem State.raiseFault_fbEra (s : State) (b : Nat) : (s.raiseFault b).fbEra = s.fbEra := rfl
@[simp] theorem State.raiseFault_pins (s : State) (b : Nat) : (s.raiseFault b).pins = s.pins := rfl
@[simp] theorem State.raiseFault_mon (s : State) (b : Nat) : (s.raiseFault b).mon = s.mon := rfl
@[simp] theorem State.raiseFault_panel (s : State) (b : Nat) : (s.raiseFault b).panel = s.panel := rfl
@[simp] theorem State.raiseFault_trace (s : State) (b : Nat) : (s.raiseFault b).trace = s.trace := rfl
@[simp] theorem State.raiseFault_ctx (s : State) (b : Nat) : (s.raiseFault b).ctx = s.ctx := rfl
@[simp] theorem State.raiseFault_env (s : State) (b : Nat) : (s.raiseFault b).env = s.env := rfl

/-! ### `result` -/

@[simp] theorem State.result_cfg (s : State) (c : ResultCode) : (s.result c).cfg = s.cfg := rfl
@[simp] theorem State.result_regs (s : State) (c : ResultCode) : (s.result c).regs = s.regs := rfl
@[simp] theorem State.result_refresh (s : State) (c : ResultCode) :
    (s.result c).refresh = { s.refresh with resultCode := c } := rfl
@[simp] theorem State.result_fg (s : State) (c : ResultCode) : (s.result c).fg = s.fg := rfl
@[simp] theorem State.result_bg (s : State) (c : ResultCode) : (s.result c).bg = s.bg := rfl
@[simp] theorem State.result_fb (s : State) (c : ResultCode) : (s.result c).fb = s.fb := rfl
@[simp] theorem State.result_fbEra (s : State) (c : ResultCode) : (s.result c).fbEra = s.fbEra := rfl
@[simp] theorem State.result_pins (s : State) (c : ResultCode) : (s.result c).pins = s.pins := rfl
@[simp] theorem State.result_mon (s : State) (c : ResultCode) : (s.result c).mon = s.mon := rfl
@[simp] theorem State.result_panel (s : State) (c : ResultCode) : (s.result c).panel = s.panel := rfl
@[simp] theorem State.result_trace (s : State) (c : ResultCode) : (s.result c).trace = s.trace := rfl
@[simp] theorem State.result_ctx (s : State) (c : ResultCode) : (s.result c).ctx = s.ctx := rfl
@[simp] theorem State.result_env (s : State) (c : ResultCode) : (s.result c).env = s.env := rfl

/-! ### `finish` -/

@[simp] theorem State.finish_cfg (s : State) (o : OpId) (c : ResultCode) : (s.finish o c).cfg = s.cfg := rfl
@[simp] theorem State.finish_regs (s : State) (o : OpId) (c : ResultCode) : (s.finish o c).regs = s.regs := rfl
@[simp] theorem State.finish_refresh (s : State) (o : OpId) (c : ResultCode) :
    (s.finish o c).refresh = { s.refresh with resultCode := c } := rfl
@[simp] theorem State.finish_fg (s : State) (o : OpId) (c : ResultCode) : (s.finish o c).fg = s.fg := rfl
@[simp] theorem State.finish_bg (s : State) (o : OpId) (c : ResultCode) : (s.finish o c).bg = s.bg := rfl
@[simp] theorem State.finish_fb (s : State) (o : OpId) (c : ResultCode) : (s.finish o c).fb = s.fb := rfl
@[simp] theorem State.finish_fbEra (s : State) (o : OpId) (c : ResultCode) : (s.finish o c).fbEra = s.fbEra := rfl
@[simp] theorem State.finish_pins (s : State) (o : OpId) (c : ResultCode) : (s.finish o c).pins = s.pins := rfl
@[simp] theorem State.finish_mon (s : State) (o : OpId) (c : ResultCode) : (s.finish o c).mon = s.mon := rfl
@[simp] theorem State.finish_panel (s : State) (o : OpId) (c : ResultCode) : (s.finish o c).panel = s.panel := rfl
@[simp] theorem State.finish_trace (s : State) (o : OpId) (c : ResultCode) :
    (s.finish o c).trace = s.trace ++ [.hostOp o c] := rfl
@[simp] theorem State.finish_ctx (s : State) (o : OpId) (c : ResultCode) : (s.finish o c).ctx = s.ctx := rfl
@[simp] theorem State.finish_env (s : State) (o : OpId) (c : ResultCode) : (s.finish o c).env = s.env := rfl

/-! ### `finishFaulted` -/

@[simp] theorem State.finishFaulted_cfg (s : State) (o : OpId) (b : Nat) : (s.finishFaulted o b).cfg = s.cfg := rfl
@[simp] theorem State.finishFaulted_regs (s : State) (o : OpId) (b : Nat) :
    (s.finishFaulted o b).regs = { s.regs with fault := s.regs.fault ||| (1#32 <<< b) } := rfl
@[simp] theorem State.finishFaulted_refresh (s : State) (o : OpId) (b : Nat) :
    (s.finishFaulted o b).refresh = { s.refresh with resultCode := .faulted } := rfl
@[simp] theorem State.finishFaulted_fg (s : State) (o : OpId) (b : Nat) : (s.finishFaulted o b).fg = s.fg := rfl
@[simp] theorem State.finishFaulted_bg (s : State) (o : OpId) (b : Nat) : (s.finishFaulted o b).bg = s.bg := rfl
@[simp] theorem State.finishFaulted_fb (s : State) (o : OpId) (b : Nat) : (s.finishFaulted o b).fb = s.fb := rfl
@[simp] theorem State.finishFaulted_fbEra (s : State) (o : OpId) (b : Nat) :
    (s.finishFaulted o b).fbEra = s.fbEra := rfl
@[simp] theorem State.finishFaulted_pins (s : State) (o : OpId) (b : Nat) : (s.finishFaulted o b).pins = s.pins := rfl
@[simp] theorem State.finishFaulted_mon (s : State) (o : OpId) (b : Nat) : (s.finishFaulted o b).mon = s.mon := rfl
@[simp] theorem State.finishFaulted_panel (s : State) (o : OpId) (b : Nat) :
    (s.finishFaulted o b).panel = s.panel := rfl
@[simp] theorem State.finishFaulted_trace (s : State) (o : OpId) (b : Nat) :
    (s.finishFaulted o b).trace = s.trace ++ [.hostOp o .faulted] := rfl
@[simp] theorem State.finishFaulted_ctx (s : State) (o : OpId) (b : Nat) : (s.finishFaulted o b).ctx = s.ctx := rfl
@[simp] theorem State.finishFaulted_env (s : State) (o : OpId) (b : Nat) : (s.finishFaulted o b).env = s.env := rfl

/-! ### `afterAnswer` -/

@[simp] theorem State.afterAnswer_cfg (s : State) : s.afterAnswer.cfg = s.cfg := rfl
@[simp] theorem State.afterAnswer_regs (s : State) : s.afterAnswer.regs = s.regs := rfl
@[simp] theorem State.afterAnswer_refresh (s : State) : s.afterAnswer.refresh = s.refresh := rfl
@[simp] theorem State.afterAnswer_fg (s : State) : s.afterAnswer.fg = s.fg := rfl
@[simp] theorem State.afterAnswer_bg (s : State) : s.afterAnswer.bg = s.bg := rfl
@[simp] theorem State.afterAnswer_fb (s : State) : s.afterAnswer.fb = s.fb := rfl
@[simp] theorem State.afterAnswer_fbEra (s : State) : s.afterAnswer.fbEra = s.fbEra := rfl
@[simp] theorem State.afterAnswer_pins (s : State) : s.afterAnswer.pins = s.pins := rfl
@[simp] theorem State.afterAnswer_mon (s : State) : s.afterAnswer.mon = s.mon := rfl
@[simp] theorem State.afterAnswer_panel (s : State) : s.afterAnswer.panel = s.panel := rfl
@[simp] theorem State.afterAnswer_trace (s : State) : s.afterAnswer.trace = s.trace := rfl
@[simp] theorem State.afterAnswer_ctx (s : State) : s.afterAnswer.ctx = s.ctx := rfl
@[simp] theorem State.afterAnswer_env (s : State) : s.afterAnswer.env = s.env.afterAnswer := rfl

/-! ### `memWrite` -/

@[simp] theorem State.memWrite_cfg (s : State) (a : Nat) (v : Byte) : (s.memWrite a v).cfg = s.cfg := rfl
@[simp] theorem State.memWrite_regs (s : State) (a : Nat) (v : Byte) : (s.memWrite a v).regs = s.regs := rfl
@[simp] theorem State.memWrite_refresh (s : State) (a : Nat) (v : Byte) : (s.memWrite a v).refresh = s.refresh := rfl
@[simp] theorem State.memWrite_fg (s : State) (a : Nat) (v : Byte) : (s.memWrite a v).fg = s.fg := rfl
@[simp] theorem State.memWrite_bg (s : State) (a : Nat) (v : Byte) : (s.memWrite a v).bg = s.bg := rfl
@[simp] theorem State.memWrite_fb (s : State) (a : Nat) (v : Byte) :
    (s.memWrite a v).fb = Memory.write s.fb a v := rfl
@[simp] theorem State.memWrite_fbEra (s : State) (a : Nat) (v : Byte) : (s.memWrite a v).fbEra = s.fbEra := rfl
@[simp] theorem State.memWrite_pins (s : State) (a : Nat) (v : Byte) : (s.memWrite a v).pins = s.pins := rfl
@[simp] theorem State.memWrite_mon (s : State) (a : Nat) (v : Byte) : (s.memWrite a v).mon = s.mon := rfl
@[simp] theorem State.memWrite_panel (s : State) (a : Nat) (v : Byte) : (s.memWrite a v).panel = s.panel := rfl
@[simp] theorem State.memWrite_trace (s : State) (a : Nat) (v : Byte) : (s.memWrite a v).trace = s.trace := rfl
@[simp] theorem State.memWrite_ctx (s : State) (a : Nat) (v : Byte) : (s.memWrite a v).ctx = s.ctx := rfl
@[simp] theorem State.memWrite_env (s : State) (a : Nat) (v : Byte) : (s.memWrite a v).env = s.env := rfl

/-! ### `havocFb` -/

@[simp] theorem State.havocFb_cfg (s : State) : s.havocFb.cfg = s.cfg := rfl
@[simp] theorem State.havocFb_regs (s : State) : s.havocFb.regs = s.regs := rfl
@[simp] theorem State.havocFb_refresh (s : State) : s.havocFb.refresh = s.refresh := rfl
@[simp] theorem State.havocFb_fg (s : State) : s.havocFb.fg = s.fg := rfl
@[simp] theorem State.havocFb_bg (s : State) : s.havocFb.bg = s.bg := rfl
@[simp] theorem State.havocFb_fb (s : State) : s.havocFb.fb = [] := rfl
@[simp] theorem State.havocFb_fbEra (s : State) : s.havocFb.fbEra = s.fbEra + 1 := rfl
@[simp] theorem State.havocFb_pins (s : State) : s.havocFb.pins = s.pins := rfl
@[simp] theorem State.havocFb_mon (s : State) : s.havocFb.mon = s.mon := rfl
@[simp] theorem State.havocFb_panel (s : State) : s.havocFb.panel = s.panel := rfl
@[simp] theorem State.havocFb_trace (s : State) : s.havocFb.trace = s.trace := rfl
@[simp] theorem State.havocFb_ctx (s : State) : s.havocFb.ctx = s.ctx := rfl
@[simp] theorem State.havocFb_env (s : State) : s.havocFb.env = s.env := rfl

/-! ### `fillFb` -/

@[simp] theorem State.fillFb_cfg (s : State) (v : Byte) : (s.fillFb v).cfg = s.cfg := rfl
@[simp] theorem State.fillFb_regs (s : State) (v : Byte) : (s.fillFb v).regs = s.regs := rfl
@[simp] theorem State.fillFb_refresh (s : State) (v : Byte) : (s.fillFb v).refresh = s.refresh := rfl
@[simp] theorem State.fillFb_fg (s : State) (v : Byte) : (s.fillFb v).fg = s.fg := rfl
@[simp] theorem State.fillFb_bg (s : State) (v : Byte) : (s.fillFb v).bg = s.bg := rfl
@[simp] theorem State.fillFb_fb (s : State) (v : Byte) : (s.fillFb v).fb = Memory.filled s.cfg.fbSize v := rfl
@[simp] theorem State.fillFb_fbEra (s : State) (v : Byte) : (s.fillFb v).fbEra = s.fbEra := rfl
@[simp] theorem State.fillFb_pins (s : State) (v : Byte) : (s.fillFb v).pins = s.pins := rfl
@[simp] theorem State.fillFb_mon (s : State) (v : Byte) : (s.fillFb v).mon = s.mon := rfl
@[simp] theorem State.fillFb_panel (s : State) (v : Byte) : (s.fillFb v).panel = s.panel := rfl
@[simp] theorem State.fillFb_trace (s : State) (v : Byte) : (s.fillFb v).trace = s.trace := rfl
@[simp] theorem State.fillFb_ctx (s : State) (v : Byte) : (s.fillFb v).ctx = s.ctx := rfl
@[simp] theorem State.fillFb_env (s : State) (v : Byte) : (s.fillFb v).env = s.env := rfl

/-! ### `leaveSegment` -/

@[simp] theorem State.leaveSegment_cfg (s : State) : s.leaveSegment.cfg = s.cfg := rfl
@[simp] theorem State.leaveSegment_regs (s : State) : s.leaveSegment.regs = s.regs := rfl
@[simp] theorem State.leaveSegment_refresh (s : State) : s.leaveSegment.refresh = s.refresh := rfl
@[simp] theorem State.leaveSegment_fg (s : State) : s.leaveSegment.fg = s.fg := rfl
@[simp] theorem State.leaveSegment_bg (s : State) : s.leaveSegment.bg = { s.bg with inSegment := false } := rfl
@[simp] theorem State.leaveSegment_fb (s : State) : s.leaveSegment.fb = s.fb := rfl
@[simp] theorem State.leaveSegment_fbEra (s : State) : s.leaveSegment.fbEra = s.fbEra := rfl
@[simp] theorem State.leaveSegment_pins (s : State) : s.leaveSegment.pins = s.pins := rfl
@[simp] theorem State.leaveSegment_mon (s : State) : s.leaveSegment.mon = s.mon := rfl
@[simp] theorem State.leaveSegment_panel (s : State) : s.leaveSegment.panel = s.panel := rfl
@[simp] theorem State.leaveSegment_trace (s : State) : s.leaveSegment.trace = s.trace := rfl
@[simp] theorem State.leaveSegment_ctx (s : State) : s.leaveSegment.ctx = s.ctx := rfl
@[simp] theorem State.leaveSegment_env (s : State) : s.leaveSegment.env = s.env := rfl

/-! ### `startFg` -/

@[simp] theorem State.startFg_cfg (s : State) (o : BitVec 4) (p : List MicroOp) : (s.startFg o p).cfg = s.cfg := rfl
@[simp] theorem State.startFg_regs (s : State) (o : BitVec 4) (p : List MicroOp) :
    (s.startFg o p).regs = s.regs := rfl
@[simp] theorem State.startFg_refresh (s : State) (o : BitVec 4) (p : List MicroOp) :
    (s.startFg o p).refresh = s.refresh := rfl
@[simp] theorem State.startFg_fg (s : State) (o : BitVec 4) (p : List MicroOp) :
    (s.startFg o p).fg = { active := true, op := .host o, prog := p, pc := 0 } := rfl
@[simp] theorem State.startFg_bg (s : State) (o : BitVec 4) (p : List MicroOp) : (s.startFg o p).bg = s.bg := rfl
@[simp] theorem State.startFg_fb (s : State) (o : BitVec 4) (p : List MicroOp) : (s.startFg o p).fb = s.fb := rfl
@[simp] theorem State.startFg_fbEra (s : State) (o : BitVec 4) (p : List MicroOp) :
    (s.startFg o p).fbEra = s.fbEra := rfl
@[simp] theorem State.startFg_pins (s : State) (o : BitVec 4) (p : List MicroOp) :
    (s.startFg o p).pins = s.pins := rfl
@[simp] theorem State.startFg_mon (s : State) (o : BitVec 4) (p : List MicroOp) : (s.startFg o p).mon = s.mon := rfl
@[simp] theorem State.startFg_panel (s : State) (o : BitVec 4) (p : List MicroOp) :
    (s.startFg o p).panel = s.panel := rfl
@[simp] theorem State.startFg_trace (s : State) (o : BitVec 4) (p : List MicroOp) :
    (s.startFg o p).trace = s.trace := rfl
@[simp] theorem State.startFg_ctx (s : State) (o : BitVec 4) (p : List MicroOp) : (s.startFg o p).ctx = s.ctx := rfl
@[simp] theorem State.startFg_env (s : State) (o : BitVec 4) (p : List MicroOp) : (s.startFg o p).env = s.env := rfl

/-! ### `startBg` -/

@[simp] theorem State.startBg_cfg (s : State) (p : List MicroOp) : (s.startBg p).cfg = s.cfg := rfl
@[simp] theorem State.startBg_regs (s : State) (p : List MicroOp) : (s.startBg p).regs = s.regs := rfl
@[simp] theorem State.startBg_refresh (s : State) (p : List MicroOp) : (s.startBg p).refresh = s.refresh := rfl
@[simp] theorem State.startBg_fg (s : State) (p : List MicroOp) : (s.startBg p).fg = s.fg := rfl
@[simp] theorem State.startBg_bg (s : State) (p : List MicroOp) :
    (s.startBg p).bg = { active := true, prog := p, pc := 0, inSegment := false, err := false } := rfl
@[simp] theorem State.startBg_fb (s : State) (p : List MicroOp) : (s.startBg p).fb = s.fb := rfl
@[simp] theorem State.startBg_fbEra (s : State) (p : List MicroOp) : (s.startBg p).fbEra = s.fbEra := rfl
@[simp] theorem State.startBg_pins (s : State) (p : List MicroOp) : (s.startBg p).pins = s.pins := rfl
@[simp] theorem State.startBg_mon (s : State) (p : List MicroOp) : (s.startBg p).mon = s.mon := rfl
@[simp] theorem State.startBg_panel (s : State) (p : List MicroOp) : (s.startBg p).panel = s.panel := rfl
@[simp] theorem State.startBg_trace (s : State) (p : List MicroOp) : (s.startBg p).trace = s.trace := rfl
@[simp] theorem State.startBg_ctx (s : State) (p : List MicroOp) : (s.startBg p).ctx = s.ctx := rfl
@[simp] theorem State.startBg_env (s : State) (p : List MicroOp) : (s.startBg p).env = s.env := rfl

/-! ### `observeFrame` -/

@[simp] theorem State.observeFrame_cfg (s : State) : s.observeFrame.cfg = s.cfg := rfl
@[simp] theorem State.observeFrame_regs (s : State) : s.observeFrame.regs = s.regs := rfl
@[simp] theorem State.observeFrame_refresh (s : State) : s.observeFrame.refresh = s.refresh := rfl
@[simp] theorem State.observeFrame_fg (s : State) : s.observeFrame.fg = s.fg := rfl
@[simp] theorem State.observeFrame_bg (s : State) : s.observeFrame.bg = s.bg := rfl
@[simp] theorem State.observeFrame_fb (s : State) : s.observeFrame.fb = s.fb := rfl
@[simp] theorem State.observeFrame_fbEra (s : State) : s.observeFrame.fbEra = s.fbEra := rfl
@[simp] theorem State.observeFrame_pins (s : State) : s.observeFrame.pins = s.pins := rfl
@[simp] theorem State.observeFrame_mon (s : State) :
    s.observeFrame.mon = (s.mon.record mAsleep s.mon.asleep).record mPanelBusy s.panel.pbusy := rfl
@[simp] theorem State.observeFrame_panel (s : State) : s.observeFrame.panel = s.panel := rfl
@[simp] theorem State.observeFrame_trace (s : State) : s.observeFrame.trace = s.trace := rfl
@[simp] theorem State.observeFrame_ctx (s : State) : s.observeFrame.ctx = s.ctx := rfl
@[simp] theorem State.observeFrame_env (s : State) : s.observeFrame.env = s.env := rfl

/-! ### `drivePins` -/

@[simp] theorem State.drivePins_cfg (s : State) (k : FrameKind) (bs : List Byte) :
    (s.drivePins k bs).cfg = s.cfg := rfl
@[simp] theorem State.drivePins_regs (s : State) (k : FrameKind) (bs : List Byte) :
    (s.drivePins k bs).regs = s.regs := rfl
@[simp] theorem State.drivePins_refresh (s : State) (k : FrameKind) (bs : List Byte) :
    (s.drivePins k bs).refresh = s.refresh := rfl
@[simp] theorem State.drivePins_fg (s : State) (k : FrameKind) (bs : List Byte) : (s.drivePins k bs).fg = s.fg := rfl
@[simp] theorem State.drivePins_bg (s : State) (k : FrameKind) (bs : List Byte) : (s.drivePins k bs).bg = s.bg := rfl
@[simp] theorem State.drivePins_fb (s : State) (k : FrameKind) (bs : List Byte) : (s.drivePins k bs).fb = s.fb := rfl
@[simp] theorem State.drivePins_fbEra (s : State) (k : FrameKind) (bs : List Byte) :
    (s.drivePins k bs).fbEra = s.fbEra := rfl
@[simp] theorem State.drivePins_pins (s : State) (k : FrameKind) (bs : List Byte) :
    (s.drivePins k bs).pins = s.pins.afterFrame s.cfg k bs := rfl
@[simp] theorem State.drivePins_mon (s : State) (k : FrameKind) (bs : List Byte) :
    (s.drivePins k bs).mon = s.mon := rfl
@[simp] theorem State.drivePins_panel (s : State) (k : FrameKind) (bs : List Byte) :
    (s.drivePins k bs).panel = s.panel := rfl
@[simp] theorem State.drivePins_trace (s : State) (k : FrameKind) (bs : List Byte) :
    (s.drivePins k bs).trace = s.trace := rfl
@[simp] theorem State.drivePins_ctx (s : State) (k : FrameKind) (bs : List Byte) :
    (s.drivePins k bs).ctx = s.ctx := rfl
@[simp] theorem State.drivePins_env (s : State) (k : FrameKind) (bs : List Byte) :
    (s.drivePins k bs).env = s.env := rfl

/-! ### `beginFrame` -/

@[simp] theorem State.beginFrame_cfg (s : State) (k : FrameKind) (bs : List Byte) :
    (s.beginFrame k bs).cfg = s.cfg := rfl
@[simp] theorem State.beginFrame_regs (s : State) (k : FrameKind) (bs : List Byte) :
    (s.beginFrame k bs).regs = s.regs := rfl
@[simp] theorem State.beginFrame_refresh (s : State) (k : FrameKind) (bs : List Byte) :
    (s.beginFrame k bs).refresh = s.refresh := rfl
@[simp] theorem State.beginFrame_fg (s : State) (k : FrameKind) (bs : List Byte) :
    (s.beginFrame k bs).fg = s.fg := rfl
@[simp] theorem State.beginFrame_bg (s : State) (k : FrameKind) (bs : List Byte) :
    (s.beginFrame k bs).bg = s.bg := rfl
@[simp] theorem State.beginFrame_fb (s : State) (k : FrameKind) (bs : List Byte) :
    (s.beginFrame k bs).fb = s.fb := rfl
@[simp] theorem State.beginFrame_fbEra (s : State) (k : FrameKind) (bs : List Byte) :
    (s.beginFrame k bs).fbEra = s.fbEra := rfl
@[simp] theorem State.beginFrame_pins (s : State) (k : FrameKind) (bs : List Byte) :
    (s.beginFrame k bs).pins = s.pins.afterFrame s.cfg k bs := rfl
@[simp] theorem State.beginFrame_mon (s : State) (k : FrameKind) (bs : List Byte) :
    (s.beginFrame k bs).mon = (s.mon.record mAsleep s.mon.asleep).record mPanelBusy s.panel.pbusy := rfl
@[simp] theorem State.beginFrame_panel (s : State) (k : FrameKind) (bs : List Byte) :
    (s.beginFrame k bs).panel = s.panel := rfl
@[simp] theorem State.beginFrame_trace (s : State) (k : FrameKind) (bs : List Byte) :
    (s.beginFrame k bs).trace = s.trace := rfl
@[simp] theorem State.beginFrame_ctx (s : State) (k : FrameKind) (bs : List Byte) :
    (s.beginFrame k bs).ctx = s.ctx := rfl
@[simp] theorem State.beginFrame_env (s : State) (k : FrameKind) (bs : List Byte) :
    (s.beginFrame k bs).env = s.env.afterAnswer := rfl

/-! ### `setFsm` -/

@[simp] theorem State.setFsm_cfg (s : State) (v : Fsm) : (s.setFsm v).cfg = s.cfg := rfl
@[simp] theorem State.setFsm_regs (s : State) (v : Fsm) : (s.setFsm v).regs = s.regs := rfl
@[simp] theorem State.setFsm_refresh (s : State) (v : Fsm) : (s.setFsm v).refresh = { s.refresh with fsm := v } := rfl
@[simp] theorem State.setFsm_fg (s : State) (v : Fsm) : (s.setFsm v).fg = s.fg := rfl
@[simp] theorem State.setFsm_bg (s : State) (v : Fsm) : (s.setFsm v).bg = s.bg := rfl
@[simp] theorem State.setFsm_fb (s : State) (v : Fsm) : (s.setFsm v).fb = s.fb := rfl
@[simp] theorem State.setFsm_fbEra (s : State) (v : Fsm) : (s.setFsm v).fbEra = s.fbEra := rfl
@[simp] theorem State.setFsm_pins (s : State) (v : Fsm) : (s.setFsm v).pins = s.pins := rfl
@[simp] theorem State.setFsm_mon (s : State) (v : Fsm) : (s.setFsm v).mon = s.mon := rfl
@[simp] theorem State.setFsm_panel (s : State) (v : Fsm) : (s.setFsm v).panel = s.panel := rfl
@[simp] theorem State.setFsm_trace (s : State) (v : Fsm) : (s.setFsm v).trace = s.trace := rfl
@[simp] theorem State.setFsm_ctx (s : State) (v : Fsm) : (s.setFsm v).ctx = s.ctx := rfl
@[simp] theorem State.setFsm_env (s : State) (v : Fsm) : (s.setFsm v).env = s.env := rfl

/-! ### `checkFullInit` -/

@[simp] theorem State.checkFullInit_cfg (s : State) : s.checkFullInit.cfg = s.cfg := rfl
@[simp] theorem State.checkFullInit_regs (s : State) : s.checkFullInit.regs = s.regs := rfl
@[simp] theorem State.checkFullInit_refresh (s : State) : s.checkFullInit.refresh = s.refresh := rfl
@[simp] theorem State.checkFullInit_fg (s : State) : s.checkFullInit.fg = s.fg := rfl
@[simp] theorem State.checkFullInit_bg (s : State) : s.checkFullInit.bg = s.bg := rfl
@[simp] theorem State.checkFullInit_fb (s : State) : s.checkFullInit.fb = s.fb := rfl
@[simp] theorem State.checkFullInit_fbEra (s : State) : s.checkFullInit.fbEra = s.fbEra := rfl
@[simp] theorem State.checkFullInit_pins (s : State) : s.checkFullInit.pins = s.pins := rfl
@[simp] theorem State.checkFullInit_mon (s : State) :
    s.checkFullInit.mon = s.mon.record mNoInit (!s.mon.fullCfgValid) := rfl
@[simp] theorem State.checkFullInit_panel (s : State) : s.checkFullInit.panel = s.panel := rfl
@[simp] theorem State.checkFullInit_trace (s : State) : s.checkFullInit.trace = s.trace := rfl
@[simp] theorem State.checkFullInit_ctx (s : State) : s.checkFullInit.ctx = s.ctx := rfl
@[simp] theorem State.checkFullInit_env (s : State) : s.checkFullInit.env = s.env := rfl

/-! ### `setResult` -/

@[simp] theorem State.setResult_cfg (s : State) (v : Word) : (s.setResult v).cfg = s.cfg := rfl
@[simp] theorem State.setResult_regs (s : State) (v : Word) :
    (s.setResult v).regs = { s.regs with result := v } := rfl
@[simp] theorem State.setResult_refresh (s : State) (v : Word) : (s.setResult v).refresh = s.refresh := rfl
@[simp] theorem State.setResult_fg (s : State) (v : Word) : (s.setResult v).fg = s.fg := rfl
@[simp] theorem State.setResult_bg (s : State) (v : Word) : (s.setResult v).bg = s.bg := rfl
@[simp] theorem State.setResult_fb (s : State) (v : Word) : (s.setResult v).fb = s.fb := rfl
@[simp] theorem State.setResult_fbEra (s : State) (v : Word) : (s.setResult v).fbEra = s.fbEra := rfl
@[simp] theorem State.setResult_pins (s : State) (v : Word) : (s.setResult v).pins = s.pins := rfl
@[simp] theorem State.setResult_mon (s : State) (v : Word) : (s.setResult v).mon = s.mon := rfl
@[simp] theorem State.setResult_panel (s : State) (v : Word) : (s.setResult v).panel = s.panel := rfl
@[simp] theorem State.setResult_trace (s : State) (v : Word) : (s.setResult v).trace = s.trace := rfl
@[simp] theorem State.setResult_ctx (s : State) (v : Word) : (s.setResult v).ctx = s.ctx := rfl
@[simp] theorem State.setResult_env (s : State) (v : Word) : (s.setResult v).env = s.env := rfl

/-! ### `putPixel` -/

@[simp] theorem State.putPixel_cfg (s : State) (x y : Nat) (v : Bool) : (s.putPixel x y v).cfg = s.cfg := rfl
@[simp] theorem State.putPixel_regs (s : State) (x y : Nat) (v : Bool) : (s.putPixel x y v).regs = s.regs := rfl
@[simp] theorem State.putPixel_refresh (s : State) (x y : Nat) (v : Bool) :
    (s.putPixel x y v).refresh = s.refresh := rfl
@[simp] theorem State.putPixel_fg (s : State) (x y : Nat) (v : Bool) : (s.putPixel x y v).fg = s.fg := rfl
@[simp] theorem State.putPixel_bg (s : State) (x y : Nat) (v : Bool) : (s.putPixel x y v).bg = s.bg := rfl
@[simp] theorem State.putPixel_fbEra (s : State) (x y : Nat) (v : Bool) : (s.putPixel x y v).fbEra = s.fbEra := rfl
@[simp] theorem State.putPixel_pins (s : State) (x y : Nat) (v : Bool) : (s.putPixel x y v).pins = s.pins := rfl
@[simp] theorem State.putPixel_mon (s : State) (x y : Nat) (v : Bool) : (s.putPixel x y v).mon = s.mon := rfl
@[simp] theorem State.putPixel_panel (s : State) (x y : Nat) (v : Bool) : (s.putPixel x y v).panel = s.panel := rfl
@[simp] theorem State.putPixel_trace (s : State) (x y : Nat) (v : Bool) : (s.putPixel x y v).trace = s.trace := rfl
@[simp] theorem State.putPixel_ctx (s : State) (x y : Nat) (v : Bool) : (s.putPixel x y v).ctx = s.ctx := rfl
@[simp] theorem State.putPixel_env (s : State) (x y : Nat) (v : Bool) : (s.putPixel x y v).env = s.env := rfl

/-! ### `inCtx` -/

@[simp] theorem State.inCtx_cfg (s : State) (c : Ctx) : (s.inCtx c).cfg = s.cfg := rfl
@[simp] theorem State.inCtx_regs (s : State) (c : Ctx) : (s.inCtx c).regs = s.regs := rfl
@[simp] theorem State.inCtx_refresh (s : State) (c : Ctx) : (s.inCtx c).refresh = s.refresh := rfl
@[simp] theorem State.inCtx_fg (s : State) (c : Ctx) : (s.inCtx c).fg = s.fg := rfl
@[simp] theorem State.inCtx_bg (s : State) (c : Ctx) : (s.inCtx c).bg = s.bg := rfl
@[simp] theorem State.inCtx_fb (s : State) (c : Ctx) : (s.inCtx c).fb = s.fb := rfl
@[simp] theorem State.inCtx_fbEra (s : State) (c : Ctx) : (s.inCtx c).fbEra = s.fbEra := rfl
@[simp] theorem State.inCtx_pins (s : State) (c : Ctx) : (s.inCtx c).pins = s.pins := rfl
@[simp] theorem State.inCtx_mon (s : State) (c : Ctx) : (s.inCtx c).mon = s.mon := rfl
@[simp] theorem State.inCtx_panel (s : State) (c : Ctx) : (s.inCtx c).panel = s.panel := rfl
@[simp] theorem State.inCtx_trace (s : State) (c : Ctx) : (s.inCtx c).trace = s.trace := rfl
@[simp] theorem State.inCtx_ctx (s : State) (c : Ctx) : (s.inCtx c).ctx = c := rfl
@[simp] theorem State.inCtx_env (s : State) (c : Ctx) : (s.inCtx c).env = s.env := rfl

/-! ### `popAccess` -/

@[simp] theorem State.popAccess_cfg (s : State) : s.popAccess.cfg = s.cfg := rfl
@[simp] theorem State.popAccess_regs (s : State) : s.popAccess.regs = s.regs := rfl
@[simp] theorem State.popAccess_refresh (s : State) : s.popAccess.refresh = s.refresh := rfl
@[simp] theorem State.popAccess_fg (s : State) : s.popAccess.fg = s.fg := rfl
@[simp] theorem State.popAccess_bg (s : State) : s.popAccess.bg = s.bg := rfl
@[simp] theorem State.popAccess_fb (s : State) : s.popAccess.fb = s.fb := rfl
@[simp] theorem State.popAccess_fbEra (s : State) : s.popAccess.fbEra = s.fbEra := rfl
@[simp] theorem State.popAccess_pins (s : State) : s.popAccess.pins = s.pins := rfl
@[simp] theorem State.popAccess_mon (s : State) : s.popAccess.mon = s.mon := rfl
@[simp] theorem State.popAccess_panel (s : State) : s.popAccess.panel = s.panel := rfl
@[simp] theorem State.popAccess_trace (s : State) : s.popAccess.trace = s.trace := rfl
@[simp] theorem State.popAccess_ctx (s : State) : s.popAccess.ctx = s.ctx := rfl
@[simp] theorem State.popAccess_env (s : State) : s.popAccess.env = { s.env with host := s.env.host.tail } := rfl

/-! ### `deliver` -/

@[simp] theorem State.deliver_cfg (s : State) (v : Word) : (s.deliver v).cfg = s.cfg := rfl
@[simp] theorem State.deliver_regs (s : State) (v : Word) : (s.deliver v).regs = s.regs := rfl
@[simp] theorem State.deliver_refresh (s : State) (v : Word) : (s.deliver v).refresh = s.refresh := rfl
@[simp] theorem State.deliver_fg (s : State) (v : Word) : (s.deliver v).fg = s.fg := rfl
@[simp] theorem State.deliver_bg (s : State) (v : Word) : (s.deliver v).bg = s.bg := rfl
@[simp] theorem State.deliver_fb (s : State) (v : Word) : (s.deliver v).fb = s.fb := rfl
@[simp] theorem State.deliver_fbEra (s : State) (v : Word) : (s.deliver v).fbEra = s.fbEra := rfl
@[simp] theorem State.deliver_pins (s : State) (v : Word) : (s.deliver v).pins = s.pins := rfl
@[simp] theorem State.deliver_mon (s : State) (v : Word) : (s.deliver v).mon = s.mon := rfl
@[simp] theorem State.deliver_panel (s : State) (v : Word) : (s.deliver v).panel = s.panel := rfl
@[simp] theorem State.deliver_trace (s : State) (v : Word) : (s.deliver v).trace = s.trace := rfl
@[simp] theorem State.deliver_ctx (s : State) (v : Word) : (s.deliver v).ctx = s.ctx := rfl
@[simp] theorem State.deliver_env (s : State) (v : Word) : (s.deliver v).env = { s.env with rdata := v } := rfl

/-! ### `panelMove` -/

@[simp] theorem State.panelMove_cfg (s : State) (m : Panel → Panel) : (s.panelMove m).cfg = s.cfg := rfl
@[simp] theorem State.panelMove_regs (s : State) (m : Panel → Panel) : (s.panelMove m).regs = s.regs := rfl
@[simp] theorem State.panelMove_refresh (s : State) (m : Panel → Panel) : (s.panelMove m).refresh = s.refresh := rfl
@[simp] theorem State.panelMove_fg (s : State) (m : Panel → Panel) : (s.panelMove m).fg = s.fg := rfl
@[simp] theorem State.panelMove_bg (s : State) (m : Panel → Panel) : (s.panelMove m).bg = s.bg := rfl
@[simp] theorem State.panelMove_fb (s : State) (m : Panel → Panel) : (s.panelMove m).fb = s.fb := rfl
@[simp] theorem State.panelMove_fbEra (s : State) (m : Panel → Panel) : (s.panelMove m).fbEra = s.fbEra := rfl
@[simp] theorem State.panelMove_pins (s : State) (m : Panel → Panel) : (s.panelMove m).pins = s.pins := rfl
@[simp] theorem State.panelMove_mon (s : State) (m : Panel → Panel) : (s.panelMove m).mon = s.mon := rfl
@[simp] theorem State.panelMove_panel (s : State) (m : Panel → Panel) : (s.panelMove m).panel = m s.panel := rfl
@[simp] theorem State.panelMove_trace (s : State) (m : Panel → Panel) : (s.panelMove m).trace = s.trace := rfl
@[simp] theorem State.panelMove_ctx (s : State) (m : Panel → Panel) : (s.panelMove m).ctx = s.ctx := rfl
@[simp] theorem State.panelMove_env (s : State) (m : Panel → Panel) : (s.panelMove m).env = s.env := rfl

/-! ### `panelBusyEvent` -/

@[simp] theorem State.panelBusyEvent_cfg (s : State) :
    s.panelBusyEvent.cfg = s.cfg := by unfold State.panelBusyEvent; split <;> rfl
@[simp] theorem State.panelBusyEvent_regs (s : State) :
    s.panelBusyEvent.regs = s.regs := by unfold State.panelBusyEvent; split <;> rfl
@[simp] theorem State.panelBusyEvent_refresh (s : State) :
    s.panelBusyEvent.refresh = s.refresh := by unfold State.panelBusyEvent; split <;> rfl
@[simp] theorem State.panelBusyEvent_fg (s : State) :
    s.panelBusyEvent.fg = s.fg := by unfold State.panelBusyEvent; split <;> rfl
@[simp] theorem State.panelBusyEvent_bg (s : State) :
    s.panelBusyEvent.bg = s.bg := by unfold State.panelBusyEvent; split <;> rfl
@[simp] theorem State.panelBusyEvent_fb (s : State) :
    s.panelBusyEvent.fb = s.fb := by unfold State.panelBusyEvent; split <;> rfl
@[simp] theorem State.panelBusyEvent_fbEra (s : State) :
    s.panelBusyEvent.fbEra = s.fbEra := by unfold State.panelBusyEvent; split <;> rfl
@[simp] theorem State.panelBusyEvent_pins (s : State) :
    s.panelBusyEvent.pins = s.pins := by unfold State.panelBusyEvent; split <;> rfl
@[simp] theorem State.panelBusyEvent_mon (s : State) :
    s.panelBusyEvent.mon = s.mon := by unfold State.panelBusyEvent; split <;> rfl
@[simp] theorem State.panelBusyEvent_trace (s : State) :
    s.panelBusyEvent.trace = s.trace := by unfold State.panelBusyEvent; split <;> rfl
@[simp] theorem State.panelBusyEvent_ctx (s : State) :
    s.panelBusyEvent.ctx = s.ctx := by unfold State.panelBusyEvent; split <;> rfl

/-! ### `advance` -/

@[simp] theorem State.advance_cfg (s : State) : s.advance.cfg = s.cfg := by unfold State.advance; split <;> rfl
@[simp] theorem State.advance_regs (s : State) : s.advance.regs = s.regs := by unfold State.advance; split <;> rfl
@[simp] theorem State.advance_refresh (s : State) :
    s.advance.refresh = s.refresh := by unfold State.advance; split <;> rfl
@[simp] theorem State.advance_fb (s : State) : s.advance.fb = s.fb := by unfold State.advance; split <;> rfl
@[simp] theorem State.advance_fbEra (s : State) : s.advance.fbEra = s.fbEra := by unfold State.advance; split <;> rfl
@[simp] theorem State.advance_pins (s : State) : s.advance.pins = s.pins := by unfold State.advance; split <;> rfl
@[simp] theorem State.advance_mon (s : State) : s.advance.mon = s.mon := by unfold State.advance; split <;> rfl
@[simp] theorem State.advance_panel (s : State) : s.advance.panel = s.panel := by unfold State.advance; split <;> rfl
@[simp] theorem State.advance_trace (s : State) : s.advance.trace = s.trace := by unfold State.advance; split <;> rfl
@[simp] theorem State.advance_ctx (s : State) : s.advance.ctx = s.ctx := by unfold State.advance; split <;> rfl
@[simp] theorem State.advance_env (s : State) : s.advance.env = s.env := by unfold State.advance; split <;> rfl

/-! ### `stay` -/

@[simp] theorem State.stay_cfg (s : State) : s.stay.cfg = s.cfg := by unfold State.stay; split <;> rfl
@[simp] theorem State.stay_regs (s : State) : s.stay.regs = s.regs := by unfold State.stay; split <;> rfl
@[simp] theorem State.stay_refresh (s : State) : s.stay.refresh = s.refresh := by unfold State.stay; split <;> rfl
@[simp] theorem State.stay_fg (s : State) : s.stay.fg = s.fg := by unfold State.stay; split <;> rfl
@[simp] theorem State.stay_fb (s : State) : s.stay.fb = s.fb := by unfold State.stay; split <;> rfl
@[simp] theorem State.stay_fbEra (s : State) : s.stay.fbEra = s.fbEra := by unfold State.stay; split <;> rfl
@[simp] theorem State.stay_pins (s : State) : s.stay.pins = s.pins := by unfold State.stay; split <;> rfl
@[simp] theorem State.stay_mon (s : State) : s.stay.mon = s.mon := by unfold State.stay; split <;> rfl
@[simp] theorem State.stay_panel (s : State) : s.stay.panel = s.panel := by unfold State.stay; split <;> rfl
@[simp] theorem State.stay_trace (s : State) : s.stay.trace = s.trace := by unfold State.stay; split <;> rfl
@[simp] theorem State.stay_ctx (s : State) : s.stay.ctx = s.ctx := by unfold State.stay; split <;> rfl
@[simp] theorem State.stay_env (s : State) : s.stay.env = s.env := by unfold State.stay; split <;> rfl

/-! ### `endContext` -/

@[simp] theorem State.endContext_cfg (s : State) :
    s.endContext.cfg = s.cfg := by unfold State.endContext; split <;> rfl
@[simp] theorem State.endContext_regs (s : State) :
    s.endContext.regs = s.regs := by unfold State.endContext; split <;> rfl
@[simp] theorem State.endContext_fb (s : State) : s.endContext.fb = s.fb := by unfold State.endContext; split <;> rfl
@[simp] theorem State.endContext_fbEra (s : State) :
    s.endContext.fbEra = s.fbEra := by unfold State.endContext; split <;> rfl
@[simp] theorem State.endContext_pins (s : State) :
    s.endContext.pins = s.pins := by unfold State.endContext; split <;> rfl
@[simp] theorem State.endContext_mon (s : State) :
    s.endContext.mon = s.mon := by unfold State.endContext; split <;> rfl
@[simp] theorem State.endContext_panel (s : State) :
    s.endContext.panel = s.panel := by unfold State.endContext; split <;> rfl
@[simp] theorem State.endContext_ctx (s : State) :
    s.endContext.ctx = s.ctx := by unfold State.endContext; split <;> rfl
@[simp] theorem State.endContext_env (s : State) :
    s.endContext.env = s.env := by unfold State.endContext; split <;> rfl

/-! ### `abort` -/

@[simp] theorem State.abort_cfg (s : State) : s.abort.cfg = s.cfg := by unfold State.abort; split <;> rfl
@[simp] theorem State.abort_regs (s : State) : s.abort.regs = s.regs := by unfold State.abort; split <;> rfl
@[simp] theorem State.abort_fb (s : State) : s.abort.fb = s.fb := by unfold State.abort; split <;> rfl
@[simp] theorem State.abort_fbEra (s : State) : s.abort.fbEra = s.fbEra := by unfold State.abort; split <;> rfl
@[simp] theorem State.abort_pins (s : State) : s.abort.pins = s.pins := by unfold State.abort; split <;> rfl
@[simp] theorem State.abort_mon (s : State) : s.abort.mon = s.mon := by unfold State.abort; split <;> rfl
@[simp] theorem State.abort_panel (s : State) : s.abort.panel = s.panel := by unfold State.abort; split <;> rfl
@[simp] theorem State.abort_ctx (s : State) : s.abort.ctx = s.ctx := by unfold State.abort; split <;> rfl
@[simp] theorem State.abort_env (s : State) : s.abort.env = s.env := by unfold State.abort; split <;> rfl

/-! ### `splice` -/

@[simp] theorem State.splice_cfg (s : State) (ops : List MicroOp) :
    (s.splice ops).cfg = s.cfg := by unfold State.splice; split <;> rfl
@[simp] theorem State.splice_regs (s : State) (ops : List MicroOp) :
    (s.splice ops).regs = s.regs := by unfold State.splice; split <;> rfl
@[simp] theorem State.splice_refresh (s : State) (ops : List MicroOp) :
    (s.splice ops).refresh = s.refresh := by unfold State.splice; split <;> rfl
@[simp] theorem State.splice_fb (s : State) (ops : List MicroOp) :
    (s.splice ops).fb = s.fb := by unfold State.splice; split <;> rfl
@[simp] theorem State.splice_fbEra (s : State) (ops : List MicroOp) :
    (s.splice ops).fbEra = s.fbEra := by unfold State.splice; split <;> rfl
@[simp] theorem State.splice_pins (s : State) (ops : List MicroOp) :
    (s.splice ops).pins = s.pins := by unfold State.splice; split <;> rfl
@[simp] theorem State.splice_mon (s : State) (ops : List MicroOp) :
    (s.splice ops).mon = s.mon := by unfold State.splice; split <;> rfl
@[simp] theorem State.splice_panel (s : State) (ops : List MicroOp) :
    (s.splice ops).panel = s.panel := by unfold State.splice; split <;> rfl
@[simp] theorem State.splice_trace (s : State) (ops : List MicroOp) :
    (s.splice ops).trace = s.trace := by unfold State.splice; split <;> rfl
@[simp] theorem State.splice_ctx (s : State) (ops : List MicroOp) :
    (s.splice ops).ctx = s.ctx := by unfold State.splice; split <;> rfl
@[simp] theorem State.splice_env (s : State) (ops : List MicroOp) :
    (s.splice ops).env = s.env := by unfold State.splice; split <;> rfl

/-! ### `afterTurn` -/

@[simp] theorem State.afterTurn_cfg (s : State) : s.afterTurn.cfg = s.cfg := by unfold State.afterTurn; split <;> rfl
@[simp] theorem State.afterTurn_regs (s : State) :
    s.afterTurn.regs = s.regs := by unfold State.afterTurn; split <;> rfl
@[simp] theorem State.afterTurn_refresh (s : State) :
    s.afterTurn.refresh = s.refresh := by unfold State.afterTurn; split <;> rfl
@[simp] theorem State.afterTurn_fg (s : State) : s.afterTurn.fg = s.fg := by unfold State.afterTurn; split <;> rfl
@[simp] theorem State.afterTurn_bg (s : State) : s.afterTurn.bg = s.bg := by unfold State.afterTurn; split <;> rfl
@[simp] theorem State.afterTurn_fb (s : State) : s.afterTurn.fb = s.fb := by unfold State.afterTurn; split <;> rfl
@[simp] theorem State.afterTurn_fbEra (s : State) :
    s.afterTurn.fbEra = s.fbEra := by unfold State.afterTurn; split <;> rfl
@[simp] theorem State.afterTurn_pins (s : State) :
    s.afterTurn.pins = s.pins := by unfold State.afterTurn; split <;> rfl
@[simp] theorem State.afterTurn_mon (s : State) : s.afterTurn.mon = s.mon := by unfold State.afterTurn; split <;> rfl
@[simp] theorem State.afterTurn_panel (s : State) :
    s.afterTurn.panel = s.panel := by unfold State.afterTurn; split <;> rfl
@[simp] theorem State.afterTurn_trace (s : State) :
    s.afterTurn.trace = s.trace := by unfold State.afterTurn; split <;> rfl
@[simp] theorem State.afterTurn_ctx (s : State) : s.afterTurn.ctx = s.ctx := by unfold State.afterTurn; split <;> rfl

/-! ### `assign` -/

@[simp] theorem State.assign_cfg (s : State) (a : Assign) :
    (s.assign a).cfg = s.cfg := by unfold State.assign; split <;> rfl
@[simp] theorem State.assign_regs (s : State) (a : Assign) :
    (s.assign a).regs = s.regs := by unfold State.assign; split <;> rfl
@[simp] theorem State.assign_fg (s : State) (a : Assign) :
    (s.assign a).fg = s.fg := by unfold State.assign; split <;> rfl
@[simp] theorem State.assign_bg (s : State) (a : Assign) :
    (s.assign a).bg = s.bg := by unfold State.assign; split <;> rfl
@[simp] theorem State.assign_fb (s : State) (a : Assign) :
    (s.assign a).fb = s.fb := by unfold State.assign; split <;> rfl
@[simp] theorem State.assign_fbEra (s : State) (a : Assign) :
    (s.assign a).fbEra = s.fbEra := by unfold State.assign; split <;> rfl
@[simp] theorem State.assign_pins (s : State) (a : Assign) :
    (s.assign a).pins = s.pins := by unfold State.assign; split <;> rfl
@[simp] theorem State.assign_panel (s : State) (a : Assign) :
    (s.assign a).panel = s.panel := by unfold State.assign; split <;> rfl
@[simp] theorem State.assign_trace (s : State) (a : Assign) :
    (s.assign a).trace = s.trace := by unfold State.assign; split <;> rfl
@[simp] theorem State.assign_ctx (s : State) (a : Assign) :
    (s.assign a).ctx = s.ctx := by unfold State.assign; split <;> rfl
@[simp] theorem State.assign_env (s : State) (a : Assign) :
    (s.assign a).env = s.env := by unfold State.assign; split <;> rfl

/-! ### `afterSample` -/

@[simp] theorem State.afterSample_cfg (s : State) :
    s.afterSample.cfg = s.cfg := by unfold State.afterSample; split <;> rfl
@[simp] theorem State.afterSample_regs (s : State) :
    s.afterSample.regs = s.regs := by unfold State.afterSample; split <;> rfl
@[simp] theorem State.afterSample_refresh (s : State) :
    s.afterSample.refresh = s.refresh := by unfold State.afterSample; split <;> rfl
@[simp] theorem State.afterSample_fg (s : State) :
    s.afterSample.fg = s.fg := by unfold State.afterSample; split <;> rfl
@[simp] theorem State.afterSample_bg (s : State) :
    s.afterSample.bg = s.bg := by unfold State.afterSample; split <;> rfl
@[simp] theorem State.afterSample_fb (s : State) :
    s.afterSample.fb = s.fb := by unfold State.afterSample; split <;> rfl
@[simp] theorem State.afterSample_fbEra (s : State) :
    s.afterSample.fbEra = s.fbEra := by unfold State.afterSample; split <;> rfl
@[simp] theorem State.afterSample_pins (s : State) :
    s.afterSample.pins = s.pins := by unfold State.afterSample; split <;> rfl
@[simp] theorem State.afterSample_mon (s : State) :
    s.afterSample.mon = s.mon := by unfold State.afterSample; split <;> rfl
@[simp] theorem State.afterSample_panel (s : State) :
    s.afterSample.panel = s.panel := by unfold State.afterSample; split <;> rfl
@[simp] theorem State.afterSample_trace (s : State) :
    s.afterSample.trace = s.trace ++ [.sample s.sampleValue] := by unfold State.afterSample; split <;> rfl
@[simp] theorem State.afterSample_ctx (s : State) :
    s.afterSample.ctx = s.ctx := by unfold State.afterSample; split <;> rfl

/-! ### `pulse` -/

@[simp] theorem State.pulse_cfg (s : State) : s.pulse.cfg = s.cfg := by simp [State.pulse]
@[simp] theorem State.pulse_regs (s : State) : s.pulse.regs = s.regs := by simp [State.pulse]
@[simp] theorem State.pulse_refresh (s : State) : s.pulse.refresh = s.refresh := by simp [State.pulse]
@[simp] theorem State.pulse_fg (s : State) : s.pulse.fg = s.fg := by simp [State.pulse]
@[simp] theorem State.pulse_bg (s : State) : s.pulse.bg = s.bg := by simp [State.pulse]
@[simp] theorem State.pulse_fb (s : State) : s.pulse.fb = s.fb := by simp [State.pulse]
@[simp] theorem State.pulse_fbEra (s : State) : s.pulse.fbEra = s.fbEra := by simp [State.pulse]
@[simp] theorem State.pulse_pins (s : State) : s.pulse.pins = s.pins.afterPulse s.cfg := by simp [State.pulse]
@[simp] theorem State.pulse_mon (s : State) :
    s.pulse.mon = { s.mon with asleep := false, fullCfgValid := false } := by simp [State.pulse]
@[simp] theorem State.pulse_trace (s : State) : s.pulse.trace = s.trace ++ [.resetPulse] := by simp [State.pulse]
@[simp] theorem State.pulse_ctx (s : State) : s.pulse.ctx = s.ctx := by simp [State.pulse]

/-! ### `frameSent` -/

@[simp] theorem State.frameSent_cfg (s : State) (k : FrameKind) (bs : List Byte) (bi : Bool) :
    (s.frameSent k bs bi).cfg = s.cfg := by cases bi <;> simp [State.frameSent]
@[simp] theorem State.frameSent_regs (s : State) (k : FrameKind) (bs : List Byte) (bi : Bool) :
    (s.frameSent k bs bi).regs = s.regs := by cases bi <;> simp [State.frameSent]
@[simp] theorem State.frameSent_refresh (s : State) (k : FrameKind) (bs : List Byte) (bi : Bool) :
    (s.frameSent k bs bi).refresh = s.refresh := by cases bi <;> simp [State.frameSent]
@[simp] theorem State.frameSent_fg (s : State) (k : FrameKind) (bs : List Byte) (bi : Bool) :
    (s.frameSent k bs bi).fg = s.fg := by cases bi <;> simp [State.frameSent]
@[simp] theorem State.frameSent_bg (s : State) (k : FrameKind) (bs : List Byte) (bi : Bool) :
    (s.frameSent k bs bi).bg = s.bg := by cases bi <;> simp [State.frameSent]
@[simp] theorem State.frameSent_fb (s : State) (k : FrameKind) (bs : List Byte) (bi : Bool) :
    (s.frameSent k bs bi).fb = s.fb := by cases bi <;> simp [State.frameSent]
@[simp] theorem State.frameSent_fbEra (s : State) (k : FrameKind) (bs : List Byte) (bi : Bool) :
    (s.frameSent k bs bi).fbEra = s.fbEra := by cases bi <;> simp [State.frameSent]
@[simp] theorem State.frameSent_pins (s : State) (k : FrameKind) (bs : List Byte) (bi : Bool) :
    (s.frameSent k bs bi).pins = s.pins.afterFrame s.cfg k bs := by cases bi <;> simp [State.frameSent]
@[simp] theorem State.frameSent_mon (s : State) (k : FrameKind) (bs : List Byte) (bi : Bool) :
    (s.frameSent k bs bi).mon = (s.mon.record mAsleep s.mon.asleep).record mPanelBusy s.panel.pbusy := by cases bi <;> simp [State.frameSent]
@[simp] theorem State.frameSent_trace (s : State) (k : FrameKind) (bs : List Byte) (bi : Bool) :
    (s.frameSent k bs bi).trace = s.trace ++ [.frame k bs] := by cases bi <;> simp [State.frameSent]
@[simp] theorem State.frameSent_ctx (s : State) (k : FrameKind) (bs : List Byte) (bi : Bool) :
    (s.frameSent k bs bi).ctx = s.ctx := by cases bi <;> simp [State.frameSent]

/-! ### `frameFailed` -/

@[simp] theorem State.frameFailed_cfg (s : State) (k : FrameKind) (bs : List Byte) :
    (s.frameFailed k bs).cfg = s.cfg := by simp [State.frameFailed]
@[simp] theorem State.frameFailed_regs (s : State) (k : FrameKind) (bs : List Byte) :
    (s.frameFailed k bs).regs = { s.regs with fault := s.regs.fault ||| (1#32 <<< fTransport) } := by simp [State.frameFailed]
@[simp] theorem State.frameFailed_fb (s : State) (k : FrameKind) (bs : List Byte) :
    (s.frameFailed k bs).fb = s.fb := by simp [State.frameFailed]
@[simp] theorem State.frameFailed_fbEra (s : State) (k : FrameKind) (bs : List Byte) :
    (s.frameFailed k bs).fbEra = s.fbEra := by simp [State.frameFailed]
@[simp] theorem State.frameFailed_pins (s : State) (k : FrameKind) (bs : List Byte) :
    (s.frameFailed k bs).pins = s.pins.afterFrame s.cfg k bs := by simp [State.frameFailed]
@[simp] theorem State.frameFailed_mon (s : State) (k : FrameKind) (bs : List Byte) :
    (s.frameFailed k bs).mon = (s.mon.record mAsleep s.mon.asleep).record mPanelBusy s.panel.pbusy := by simp [State.frameFailed]
@[simp] theorem State.frameFailed_panel (s : State) (k : FrameKind) (bs : List Byte) :
    (s.frameFailed k bs).panel = s.panel := by simp [State.frameFailed]
@[simp] theorem State.frameFailed_ctx (s : State) (k : FrameKind) (bs : List Byte) :
    (s.frameFailed k bs).ctx = s.ctx := by simp [State.frameFailed]
@[simp] theorem State.frameFailed_env (s : State) (k : FrameKind) (bs : List Byte) :
    (s.frameFailed k bs).env = s.env.afterAnswer := by simp [State.frameFailed]

end Sys2Proof.Machine
end

