-- ==== Sys2Proof/Laws/Memory.lean ====
section
/-! SUPPORT. The laws of the frame buffer's memory: a read after a write, and that every operation keeps
the canonical form and the bounds. -/

namespace Sys2Proof.Machine

@[simp] theorem Memory.read_nil (a : Nat) : Memory.read [] a = none := rfl

theorem Memory.read_write_same (m : Memory) (a : Nat) (v : Byte) : Memory.read (Memory.write m a v) a = some v := by
  induction m with
  | nil => simp [Memory.write, Memory.read]
  | cons c m ih =>
    obtain ⟨k, w⟩ := c
    simp only [Memory.write]
    split
    · simp [Memory.read]
    · split
      · simp [Memory.read]
      · have h : k ≠ a := fun h => by omega
        simp [Memory.read, h, ih]

theorem Memory.read_write_other (m : Memory) {a b : Nat} (v : Byte) (h : b ≠ a) :
    Memory.read (Memory.write m a v) b = Memory.read m b := by
  induction m with
  | nil => simp [Memory.write, Memory.read, h.symm]
  | cons c m ih =>
    obtain ⟨k, w⟩ := c
    simp only [Memory.write]
    split
    · simp [Memory.read, h.symm]
    · split
      · next hk => subst hk; simp [Memory.read, h.symm]
      · simp only [Memory.read, ih]

theorem Memory.wfFrom_mono {lo lo' : Nat} (h : lo' ≤ lo) : ∀ {m : Memory}, Memory.wfFrom lo m = true → Memory.wfFrom lo' m = true
  | [], _ => rfl
  | (a, _) :: m, hm => by
    simp only [Memory.wfFrom, Bool.and_eq_true, decide_eq_true_eq] at hm ⊢
    exact ⟨by omega, hm.2⟩

theorem Memory.wfFrom_write {lo a : Nat} (h : lo ≤ a) (v : Byte) :
    ∀ {m : Memory}, Memory.wfFrom lo m = true → Memory.wfFrom lo (Memory.write m a v) = true
  | [], _ => by simp [Memory.write, Memory.wfFrom, h]
  | (k, w) :: m, hm => by
    simp only [Memory.wfFrom, Bool.and_eq_true, decide_eq_true_eq] at hm
    simp only [Memory.write]
    split
    · simp only [Memory.wfFrom, Bool.and_eq_true, decide_eq_true_eq]
      exact ⟨h, by omega, hm.2⟩
    · split
      · next hk =>
        subst hk
        simp only [Memory.wfFrom, Bool.and_eq_true, decide_eq_true_eq]
        exact hm
      · simp only [Memory.wfFrom, Bool.and_eq_true, decide_eq_true_eq]
        exact ⟨hm.1, Memory.wfFrom_write (by omega) v hm.2⟩

/-- A write keeps the canonical form. -/
theorem Memory.wf_write {m : Memory} (a : Nat) (v : Byte) (h : Memory.wf m = true) :
    Memory.wf (Memory.write m a v) = true :=
  Memory.wfFrom_write (Nat.zero_le a) v h

/-- A write inside the bounds keeps them. -/
theorem Memory.below_write {n a : Nat} (ha : a < n) (v : Byte) :
    ∀ {m : Memory}, Memory.below n m = true → Memory.below n (Memory.write m a v) = true
  | [], _ => by simp [Memory.write, Memory.below, ha]
  | (k, w) :: m, hm => by
    simp only [Memory.below, List.all_cons, Bool.and_eq_true, decide_eq_true_eq] at hm
    simp only [Memory.write]
    split
    · simp [Memory.below, ha, hm.1]
      simpa using hm.2
    · split
      · simp [Memory.below, ha]
        simpa using hm.2
      · have := Memory.below_write ha v (m := m) hm.2
        simp only [Memory.below] at this
        simp only [Memory.below, List.all_cons, Bool.and_eq_true, decide_eq_true_eq]
        exact ⟨hm.1, this⟩

theorem Memory.wfFrom_map_range' (v : Byte) :
    ∀ (len lo : Nat), Memory.wfFrom lo ((List.range' lo len).map fun a => (a, v)) = true
  | 0, _ => rfl
  | len + 1, lo => by
    simp only [List.range'_succ, List.map_cons, Memory.wfFrom, Bool.and_eq_true, decide_eq_true_eq]
    exact ⟨Nat.le_refl lo, Memory.wfFrom_map_range' v len (lo + 1)⟩

/-- A filled buffer has the canonical form. -/
theorem Memory.wf_filled (n : Nat) (v : Byte) : Memory.wf (Memory.filled n v) = true := by
  simpa [Memory.wf, Memory.filled, List.range_eq_range'] using Memory.wfFrom_map_range' v n 0

/-- A filled buffer is inside its bounds. -/
theorem Memory.below_filled (n : Nat) (v : Byte) : Memory.below n (Memory.filled n v) = true := by
  simp [Memory.below, Memory.filled]

theorem Memory.read_map_range' (v : Byte) (a : Nat) :
    ∀ (len lo : Nat), lo ≤ a → a < lo + len → Memory.read ((List.range' lo len).map fun a => (a, v)) a = some v
  | 0, _, h, h' => by omega
  | len + 1, lo, h, h' => by
    simp only [List.range'_succ, List.map_cons, Memory.read]
    split
    · rfl
    · exact Memory.read_map_range' v a len (lo + 1) (by omega) (by omega)

/-- Every byte of a filled buffer reads as the byte it was filled with. -/
theorem Memory.read_filled {n a : Nat} (h : a < n) (v : Byte) : Memory.read (Memory.filled n v) a = some v := by
  simpa [Memory.filled, List.range_eq_range'] using Memory.read_map_range' v a n 0 (by omega) (by omega)

/-- `MemRead` after `MemWrite` at the same address. -/
@[simp] theorem State.memRead_memWrite_same (s : State) (a : Nat) (v : Byte) : (s.memWrite a v).memRead a = v := by
  simp [State.memRead, Memory.read_write_same]

/-- `MemRead` after `MemWrite` at another address. -/
theorem State.memRead_memWrite_other (s : State) {a b : Nat} (v : Byte) (h : b ≠ a) :
    (s.memWrite a v).memRead b = s.memRead b := by
  simp [State.memRead, Memory.read_write_other s.fb v h]

/-- `MemRead` after `FILL`. -/
theorem State.memRead_fillFb (s : State) {a : Nat} (h : a < s.cfg.fbSize) (v : Byte) :
    (s.fillFb v).memRead a = v := by
  simp [State.memRead, Memory.read_filled h]

/-- `MemRead` depends on the buffer alone. -/
theorem State.memRead_congr {s t : State} (h : t.fb = s.fb) (h' : t.fbEra = s.fbEra) (a : Nat) :
    t.memRead a = s.memRead a := by
  simp [State.memRead, h, h']

end Sys2Proof.Machine
end

