-- ==== Sys2Proof/Laws/Programs.lean ====
section
/-! SUPPORT. The laws of the program builders: what micro-ops a group, a row loop and each program hold. -/

namespace Sys2Proof

open Sys2Proof.Machine

/-- The micro-ops of a group are command and data frames. -/
theorem groupOps_forall {p : MicroOp → Bool} (hc : ∀ op bi, p (.cmd op bi) = true)
    (hd : ∀ b bs bi, p (.data b bs bi) = true) (bi : Bool) : ∀ ps, (groupOps bi ps).all p = true
  | [] => rfl
  | [(op, [])] => by simp [groupOps, pairOps, hc]
  | [(op, b :: bs)] => by simp [groupOps, pairOps, hc, hd]
  | (op, []) :: q :: ps => by
    have := groupOps_forall hc hd bi (q :: ps)
    simp only [groupOps, pairOps, List.all_append, List.all_cons, List.all_nil, hc, this, Bool.and_self]
  | (op, b :: bs) :: q :: ps => by
    have := groupOps_forall hc hd bi (q :: ps)
    simp only [groupOps, pairOps, List.all_append, List.all_cons, List.all_nil, hc, hd, this, Bool.and_self]

theorem Cfg.group_forall (c : Cfg) {p : MicroOp → Bool} (hc : ∀ op bi, p (.cmd op bi) = true)
    (hd : ∀ b bs bi, p (.data b bs bi) = true) (g : GroupName) : (c.group g).all p = true :=
  groupOps_forall hc hd _ _

/-- The micro-ops of a row loop are one command frame, rows that exist, and yield points. -/
theorem Cfg.rows_forall (c : Cfg) {p : MicroOp → Bool} (hc : ∀ op bi, p (.cmd op bi) = true)
    (hr : ∀ src r, r < c.height → p (.row src r) = true) (hy : p .yieldPoint = true)
    (reg : Byte) (src : RowSrc) (ctx : Ctx) : (c.rows reg src ctx).all p = true := by
  simp only [Cfg.rows, List.all_cons, hc, Bool.true_and, List.all_flatMap]
  rw [List.all_eq_true]
  intro r h
  have h' := hr src r (List.mem_range.mp h)
  simp only [Cfg.rowOps]
  split <;> simp [h', hy]

theorem Cfg.group_quiet (c : Cfg) (g : GroupName) : (c.group g).all MicroOp.quiet = true :=
  c.group_forall (fun _ _ => rfl) (fun _ _ _ => rfl) g

theorem Cfg.rows_quiet (c : Cfg) (reg : Byte) (src : RowSrc) (ctx : Ctx) :
    (c.rows reg src ctx).all MicroOp.quiet = true :=
  c.rows_forall (fun _ _ => rfl) (fun _ _ _ => rfl) rfl reg src ctx

theorem Cfg.group_keepsRefresh (c : Cfg) (g : GroupName) : (c.group g).all MicroOp.keepsRefresh = true :=
  c.group_forall (fun _ _ => rfl) (fun _ _ _ => rfl) g

theorem Cfg.rows_keepsRefresh (c : Cfg) (reg : Byte) (src : RowSrc) (ctx : Ctx) :
    (c.rows reg src ctx).all MicroOp.keepsRefresh = true :=
  c.rows_forall (fun _ _ => rfl) (fun _ _ _ => rfl) rfl reg src ctx

theorem Cfg.group_wellFormed (c : Cfg) (g : GroupName) : (c.group g).all (MicroOp.wellFormed c) = true :=
  c.group_forall (fun _ _ => rfl) (fun _ _ _ => rfl) g

theorem Cfg.rows_wellFormed (c : Cfg) (reg : Byte) (src : RowSrc) (ctx : Ctx) :
    (c.rows reg src ctx).all (MicroOp.wellFormed c) = true :=
  c.rows_forall (fun _ _ => rfl) (fun _ _ h => by simpa [MicroOp.wellFormed] using h) rfl reg src ctx

/-- The programs that write none of `FSM`, `UPDATED`, `COMPLETE`. -/
theorem Cfg.initBody_keepsRefresh (c : Cfg) (f : Bool) : (c.initBody f).all MicroOp.keepsRefresh = true := by
  cases f <;>
    simp only [Cfg.initBody, List.all_append, Cfg.group_keepsRefresh, if_true, Bool.false_eq_true, if_false] <;> rfl

theorem Cfg.pInit_keepsRefresh (c : Cfg) (f : Bool) : (c.pInit f).all MicroOp.keepsRefresh = true := by
  simp only [Cfg.pInit, List.all_append, Cfg.initBody_keepsRefresh]; rfl

theorem Cfg.pClear_keepsRefresh (c : Cfg) : c.pClear.all MicroOp.keepsRefresh = true := by
  simp only [Cfg.pClear, Cfg.clearBody, List.all_append, Cfg.rows_keepsRefresh]; rfl

theorem Cfg.pSleep_keepsRefresh (c : Cfg) : c.pSleep.all MicroOp.keepsRefresh = true := by
  simp only [Cfg.pSleep, List.all_append, Cfg.group_keepsRefresh]; rfl

theorem Cfg.pConstruct_keepsRefresh (c : Cfg) : c.pConstruct.all MicroOp.keepsRefresh = true := by
  simp only [Cfg.pConstruct, Cfg.clearBody, List.all_append, Cfg.initBody_keepsRefresh, Cfg.rows_keepsRefresh,
    Cfg.group_keepsRefresh]
  rfl

theorem pReset_keepsRefresh : pReset.all MicroOp.keepsRefresh = true := rfl

theorem pWait_keepsRefresh : pWait.all MicroOp.keepsRefresh = true := rfl

/-- A blocking full refresh is quiet but for its tail. -/
theorem Cfg.pFullBlk_split (c : Cfg) : ∃ pre, c.pFullBlk = pre ++ blockingTail ∧ pre.all MicroOp.quiet = true := by
  refine ⟨c.rows c.wcfg.writeCur .fb .fg ++ c.rows c.wcfg.writePrev .fb .fg ++ c.group .actFull ++ [.waitr], rfl, ?_⟩
  simp only [List.all_append, Cfg.rows_quiet, Cfg.group_quiet]; rfl

/-- A partial refresh is quiet but for its tail. -/
theorem Cfg.pPart_split (c : Cfg) : ∃ pre, c.pPart = pre ++ blockingTail ∧ pre.all MicroOp.quiet = true := by
  refine ⟨c.group .borderPartial ++ c.group .ducPartial ++ c.group .window ++ c.group .cursor
    ++ c.rows c.wcfg.writeCur .fb .fg ++ c.group .actPartial ++ [.waitr], rfl, ?_⟩
  simp only [List.all_append, Cfg.rows_quiet, Cfg.group_quiet]; rfl

/-- An asynchronous refresh is quiet but for its tail. -/
theorem Cfg.pFullAsync_split (c : Cfg) : ∃ pre, c.pFullAsync = pre ++ asyncTail ∧ pre.all MicroOp.quiet = true := by
  refine ⟨c.rows c.wcfg.writeCur .fb .bg ++ c.rows c.wcfg.writePrev .fb .bg ++ c.group .actFull, ?_, ?_⟩
  · simp [Cfg.pFullAsync, asyncTail, settleOp]
  · simp only [List.all_append, Cfg.rows_quiet, Cfg.group_quiet]; rfl

/-- A program that is a body and an `END` is in order at its start. -/
theorem programInv_of_append {c : Cfg} {body : List MicroOp} (h : body.all (MicroOp.wellFormed c) = true) :
    programInv c (body ++ [.endProg]) 0 = true := by
  simp only [programInv, List.all_append, h, List.getLast?_append]
  simp [MicroOp.wellFormed]

theorem Cfg.initBody_wellFormed (c : Cfg) (f : Bool) : (c.initBody f).all (MicroOp.wellFormed c) = true := by
  cases f <;>
    simp only [Cfg.initBody, List.all_append, Cfg.group_wellFormed, if_true, Bool.false_eq_true, if_false] <;> rfl

theorem Cfg.programInv_pInit (c : Cfg) (f : Bool) : programInv c (c.pInit f) 0 = true :=
  programInv_of_append (c.initBody_wellFormed f)

theorem Cfg.programInv_pClear (c : Cfg) : programInv c c.pClear 0 = true :=
  programInv_of_append (by simp only [Cfg.clearBody, List.all_append, Cfg.rows_wellFormed]; rfl)

/-- The construction program, spelled out (41 R98): without `FORCE`, and ending in the mode of `INIT_PARTIAL`. -/
theorem Cfg.pConstruct_eq (c : Cfg) :
    c.pConstruct =
      [.rstp, .waitr] ++ c.group .swreset ++ [.waitr] ++ c.group .dem ++ c.group .borderFull
        ++ c.group .window ++ c.group .cursor ++ [.waitr]
        ++ [.assign [.mode .fullMode, .monFullCfgValid true]]
        ++ c.rows c.wcfg.writeCur .blank .fg ++ c.rows c.wcfg.writePrev .blank .fg
        ++ [.havocFb] ++ c.group .actFull ++ [.waitr]
        ++ [.assign [.mode (if c.initPartial then .partialMode else .fullMode)], .endProg] := by
  simp [Cfg.pConstruct, Cfg.initBody, Cfg.clearBody, Cfg.initialMode]

theorem Cfg.programInv_pConstruct (c : Cfg) : programInv c c.pConstruct 0 = true := by
  have h : c.pConstruct = (c.initBody false ++ c.clearBody ++ c.group .actFull ++ [.waitr]
      ++ [.assign [.mode c.initialMode]]) ++ [.endProg] := by simp [Cfg.pConstruct]
  rw [h]
  refine programInv_of_append ?_
  simp only [Cfg.clearBody, List.all_append, Cfg.initBody_wellFormed, Cfg.rows_wellFormed, Cfg.group_wellFormed]
  rfl

theorem Cfg.programInv_pSleep (c : Cfg) : programInv c c.pSleep 0 = true := by
  have h : c.pSleep = (c.group .sleep ++ [.assign [.monAsleep true, .monFullCfgValid false]]) ++ [.endProg] := by
    simp [Cfg.pSleep]
  rw [h]
  refine programInv_of_append ?_
  simp only [List.all_append, Cfg.group_wellFormed]; rfl

theorem Cfg.programInv_pFullBlk (c : Cfg) : programInv c c.pFullBlk 0 = true := by
  have h : c.pFullBlk = (c.rows c.wcfg.writeCur .fb .fg ++ c.rows c.wcfg.writePrev .fb .fg
      ++ c.group .actFull ++ [.waitr] ++ [.assign [.fsm .idle]]) ++ [.endProg] := by simp [Cfg.pFullBlk]
  rw [h]
  refine programInv_of_append ?_
  simp only [List.all_append, Cfg.rows_wellFormed, Cfg.group_wellFormed]; rfl

theorem Cfg.programInv_pPart (c : Cfg) : programInv c c.pPart 0 = true := by
  have h : c.pPart = (c.group .borderPartial ++ c.group .ducPartial ++ c.group .window ++ c.group .cursor
      ++ c.rows c.wcfg.writeCur .fb .fg ++ c.group .actPartial ++ [.waitr] ++ [.assign [.fsm .idle]]) ++ [.endProg] := by
    simp [Cfg.pPart]
  rw [h]
  refine programInv_of_append ?_
  simp only [List.all_append, Cfg.rows_wellFormed, Cfg.group_wellFormed]; rfl

theorem Cfg.programInv_pFullAsync (c : Cfg) : programInv c c.pFullAsync 0 = true := by
  refine programInv_of_append ?_
  simp only [List.all_append, Cfg.rows_wellFormed, Cfg.group_wellFormed]; rfl

theorem programInv_pReset (c : Cfg) : programInv c pReset 0 = true := rfl

theorem programInv_pWait (c : Cfg) : programInv c pWait 0 = true := rfl

/-- The configuration that placing an instruction leaves is well formed (00 R6). -/
theorem Cfg.madeWellFormed_wf (c : Cfg) : c.madeWellFormed.wf = true := rfl

end Sys2Proof
end

