-- ==== Sys2Proof/Laws/Ops.lean ====
section
/-! SUPPORT. One specification per shared operation: everything it can do, by context or by case. -/

namespace Sys2Proof.Machine

/-! ### Contexts -/

theorem State.advance_of_fg {s : State} (h : s.ctx = .fg) : s.advance = { s with fg := { s.fg with pc := s.fg.pc + 1 } } := by
  simp [State.advance, h]

theorem State.advance_of_bg {s : State} (h : s.ctx = .bg) :
    s.advance = { s with bg := { s.bg with pc := s.bg.pc + 1, inSegment := true } } := by
  simp [State.advance, h]

theorem State.stay_of_fg {s : State} (h : s.ctx = .fg) : s.stay = s := by simp [State.stay, h]

theorem State.stay_of_bg {s : State} (h : s.ctx = .bg) : s.stay = { s with bg := { s.bg with inSegment := true } } := by
  simp [State.stay, h]

theorem State.abort_of_fg {s : State} (h : s.ctx = .fg) :
    s.abort = { s with
      refresh := { s.refresh with resultCode := .transport }
      trace := s.trace ++ [.hostOp s.fg.op .transport]
      fg := { s.fg with active := false } } := by
  simp [State.abort, h, State.finish, State.result, State.log]

theorem State.abort_of_bg {s : State} (h : s.ctx = .bg) :
    s.abort = { s with bg := { s.bg with err := true, inSegment := false, active := false } } := by
  simp [State.abort, h]

theorem State.endContext_of_fg {s : State} (h : s.ctx = .fg) :
    s.endContext = { s with
      refresh := { s.refresh with resultCode := .ok }
      trace := s.trace ++ [.hostOp s.fg.op .ok]
      fg := { s.fg with active := false } } := by
  simp [State.endContext, h, State.finish, State.result, State.log]

theorem State.endContext_of_bg {s : State} (h : s.ctx = .bg) :
    s.endContext = { s with bg := { s.bg with active := false, inSegment := false } } := by
  simp [State.endContext, h]

/-! ### Panel -/

theorem State.panelBusyEvent_late {s : State} (h : s.cfg.panelLateBusy = true) :
    s.panelBusyEvent = { s with panel := { s.panel with ppend := true } } := by
  simp [State.panelBusyEvent, h]

theorem State.panelBusyEvent_now {s : State} (h : s.cfg.panelLateBusy = false) :
    s.panelBusyEvent = { s with env := s.env.afterAnswer, panel := { s.panel with pbusy := s.answer } } := by
  simp [State.panelBusyEvent, h, State.afterAnswer]

/-- A sample while the panel is awake reads its line and takes no draw. -/
theorem State.afterSample_awake {s : State} (h : s.mon.asleep = false) :
    s.sampleValue = s.panel.pbusy ∧ s.afterSample = s.log (.sample s.panel.pbusy) := by
  simp [State.sampleValue, State.afterSample, h]

/-- A sample while the panel is asleep is a draw. -/
theorem State.afterSample_asleep {s : State} (h : s.mon.asleep = true) :
    s.sampleValue = s.answer ∧ s.afterSample = s.afterAnswer.log (.sample s.answer) := by
  simp [State.sampleValue, State.afterSample, h]

/-! ### The monitor and the faults are sticky -/

theorem Monitor.record_asleep (m : Monitor) (b : Nat) (w : Bool) : (m.record b w).asleep = m.asleep := by
  cases w <;> rfl

theorem Monitor.record_fullCfgValid (m : Monitor) (b : Nat) (w : Bool) : (m.record b w).fullCfgValid = m.fullCfgValid := by
  cases w <;> rfl

theorem Monitor.record_fault (m : Monitor) (b : Nat) (w : Bool) :
    (m.record b w).fault = if w then m.fault ||| (1#3 <<< b) else m.fault := by
  cases w <;> rfl

/-! ### Frames -/

/-- A frame micro-op either sends its frame and advances, or fails and aborts its context (40 R67, R68). -/
theorem State.emitOp_cases (s : State) (k : FrameKind) (bs : List Byte) (bi : Bool) :
    (s.answer = true ∧ s.emitOp k bs bi = (s.frameSent k bs bi).advance)
      ∨ (s.answer = false ∧ s.emitOp k bs bi = s.frameFailed k bs) := by
  cases h : s.answer <;> simp [State.emitOp, h]

/-! ### `SET` -/

theorem State.assignAll_nil (s : State) : s.assignAll [] = s := rfl

theorem State.assignAll_cons (s : State) (a : Assign) (as : List Assign) :
    s.assignAll (a :: as) = (s.assign a).assignAll as := rfl

/-- A `SET` leaves every field unchanged but those of the refresh state machine and the monitor. -/
theorem State.assignAll_frame (ps : List Assign) : ∀ s : State,
    (s.assignAll ps).cfg = s.cfg ∧ (s.assignAll ps).regs = s.regs ∧ (s.assignAll ps).fg = s.fg
      ∧ (s.assignAll ps).bg = s.bg ∧ (s.assignAll ps).fb = s.fb ∧ (s.assignAll ps).fbEra = s.fbEra
      ∧ (s.assignAll ps).pins = s.pins ∧ (s.assignAll ps).panel = s.panel ∧ (s.assignAll ps).trace = s.trace
      ∧ (s.assignAll ps).ctx = s.ctx ∧ (s.assignAll ps).env = s.env
      ∧ (s.assignAll ps).refresh.resultCode = s.refresh.resultCode
      ∧ (s.assignAll ps).mon.fault = s.mon.fault := by
  induction ps with
  | nil => intro s; simp [State.assignAll]
  | cons a as ih =>
    intro s
    obtain ⟨h1, h2, h3, h4, h5, h6, h7, h8, h9, h10, h11, h12, h13⟩ := ih (s.assign a)
    simp only [State.assignAll_cons, h1, h2, h3, h4, h5, h6, h7, h8, h9, h10, h11, h12, h13]
    cases a <;> simp [State.assign]

end Sys2Proof.Machine
end

