-- ==== Sys2Proof/Laws/Step.lean ====
section
/-! SUPPORT. What a step can do, said once: the outcomes of `exec`, and the inversions of the agents'
steps and of the machine's. -/

namespace Sys2Proof.Machine

/-- `exec` answers a next state, but for a frame-buffer row that does not exist. -/
theorem exec_cases (i : Instr) (s : State) :
    (∃ t, exec i s = .next t) ∨ (∃ r, i = .uopRow .fb r ∧ exec i s = .fault (.rowOutOfRange r)) := by
  cases i with
  | uopRow src r =>
    cases src with
    | fb =>
      by_cases h : rowExists s.cfg.height r = true
      · exact .inl ⟨s.emitOp .data (s.rowBytes r) false, by simp only [exec, execUopRow, h, if_true]⟩
      · exact .inr ⟨r, rfl, by simp only [exec, execUopRow, h, Bool.false_eq_true, if_false]⟩
    | blank => exact .inl ⟨_, rfl⟩
  | _ => exact .inl ⟨_, rfl⟩

/-- The outcomes of a context's step. -/
theorem runMicroOp_next {m : Option MicroOp} {c : Ctx} {s t : State} (h : runMicroOp m c s = .next t) :
    ∃ op, m = some op ∧ exec op.toInstr (s.inCtx c) = .next t := by
  cases m with
  | none => simp [runMicroOp] at h
  | some op => exact ⟨op, rfl, h⟩

theorem fgStep_next {s t : State} (h : fgStep s = .next t) :
    (s.fgEnabled = false ∧ t = s)
      ∨ (s.fgEnabled = true ∧ ∃ op, s.fgOp = some op ∧ exec op.toInstr (s.inCtx .fg) = .next t) := by
  unfold fgStep at h
  split at h
  · next he => exact .inr ⟨he, runMicroOp_next h⟩
  · next he => exact .inl ⟨by simpa using he, by simpa using h.symm⟩

theorem bgStep_next {s t : State} (h : bgStep s = .next t) :
    (s.bgEnabled = false ∧ t = s)
      ∨ (s.bgEnabled = true ∧ ∃ op, s.bgOp = some op ∧ exec op.toInstr (s.inCtx .bg) = .next t) := by
  unfold bgStep at h
  split at h
  · next he => exact .inr ⟨he, runMicroOp_next h⟩
  · next he => exact .inl ⟨by simpa using he, by simpa using h.symm⟩

/-- Everything the host's step can do. -/
theorem hostStep_next {s t : State} (h : hostStep s = .next t) :
    t = s
      ∨ (∃ size off rest, s.env.host = .read size off :: rest ∧ t = s.popAccess.hostRead off)
      ∨ (∃ bit want rest, s.env.host = .poll bit want :: rest ∧ t = s.pollOnce bit want)
      ∨ (∃ size off v rest, s.env.host = .write size off v :: rest ∧ off ≠ offCmd ∧ t = s.popAccess.hostWrite off v)
      ∨ (∃ size v rest, s.env.host = .write size offCmd v :: rest ∧ s.accept = true
          ∧ exec (decodeHostWord v) s.popAccess = .next t) := by
  unfold hostStep at h
  split at h
  · exact .inl (by simpa using h.symm)
  · next size off rest hs => exact .inr (.inl ⟨size, off, rest, hs, by simpa using h.symm⟩)
  · next bit want rest hs => exact .inr (.inr (.inl ⟨bit, want, rest, hs, by simpa using h.symm⟩))
  · next size off v rest hs =>
    split at h
    · next ho =>
      subst ho
      split at h
      · next ha => exact .inr (.inr (.inr (.inr ⟨size, v, rest, hs, ha, h⟩)))
      · exact .inl (by simpa using h.symm)
    · next ho => exact .inr (.inr (.inr (.inl ⟨size, off, v, rest, hs, ho, by simpa using h.symm⟩)))

/-- A step is the step of the agent whose turn it is, unless the instance or the host's program is refused. -/
theorem step_next {s t : State} (h : step s = .next t) :
    s.cfg.wf = true ∧ s.hostProgramValid = true ∧ stepAs s.nextTurn s.afterTurn = .next t := by
  unfold step machineStep at h
  split at h
  · next hw =>
    split at h
    · next hv => exact ⟨hw, hv, h⟩
    · simp at h
  · simp at h

/-- Where neither is refused, a step is the step of the agent whose turn it is. -/
theorem step_of_defined {s : State} (h : s.defined = true) : step s = stepAs s.nextTurn s.afterTurn := by
  simp only [State.defined, Bool.and_eq_true] at h
  simp [step, machineStep, h.1, h.2]

/-- An ill-formed instance has no step (00 R6). -/
theorem step_of_illFormed {s : State} (h : s.cfg.wf = false) : step s = .refused .illFormedConfiguration := by
  simp [step, machineStep, h]

/-- The two clauses of `State.ownPrograms`, one per context. -/
theorem State.ownPrograms_iff (s : State) :
    s.ownPrograms = true ↔
      (s.fg.active = true → expandsTo s.cfg s.fg.op s.fg.prog = true)
        ∧ (s.bg.active = true → s.cfg.asyncRuntime = true ∧ s.bg.prog = s.cfg.pFullAsync) := by
  unfold State.ownPrograms
  cases s.fg.active <;> cases s.bg.active <;> simp

/-- Taking a turn changes the schedule only. -/
theorem State.afterTurn_env (s : State) :
    s.afterTurn.env.host = s.env.host ∧ s.afterTurn.env.rdata = s.env.rdata ∧ s.afterTurn.env.answers = s.env.answers := by
  unfold State.afterTurn; split <;> exact ⟨rfl, rfl, rfl⟩

/-- The instruction of a `CMD` word is a host operation or a reserved row, never a micro-op or a wire row. -/
theorem decodeHostWord_space (w : Word) : (encode (decodeHostWord w)).1 = .hostWord := by
  unfold decodeHostWord
  split
  · split <;> rfl
  · rfl

end Sys2Proof.Machine
end

