-- ==== Sys2Proof/Laws/MicroOps.lean ====
section
/-! SUPPORT. What a micro-op that writes no refresh register can do in each context, said once: it
advances, it stays, or its frame fails and the context aborts. -/

namespace Sys2Proof.Machine

/-- Two states agree on the configuration, on the refresh state machine, and on a context each keeps. -/
structure QuietStep (s t : State) : Prop where
  cfg : t.cfg = s.cfg
  fsm : t.refresh.fsm = s.refresh.fsm
  mode : t.refresh.mode = s.refresh.mode
  updated : t.refresh.updated = s.refresh.updated
  complete : t.refresh.complete = s.refresh.complete

theorem fTransport_lt : fTransport < 32 := by decide

theorem State.frameSent_quiet (s : State) (k : FrameKind) (bs : List Byte) (bi : Bool) : QuietStep s (s.frameSent k bs bi) :=
  ⟨by simp, by simp, by simp, by simp, by simp⟩

/-- What a failed frame leaves in FG (40 R68). -/
theorem State.frameFailed_fg {s : State} (h : s.ctx = .fg) (k : FrameKind) (bs : List Byte) :
    QuietStep s (s.frameFailed k bs) ∧ (s.frameFailed k bs).fg = { s.fg with active := false }
      ∧ (s.frameFailed k bs).bg = s.bg ∧ (s.frameFailed k bs).transportFaulted = true := by
  have hc : (((s.beginFrame k bs).log (.frameFailed k bs)).raiseFault fTransport).ctx = .fg := by simp [h]
  refine ⟨⟨by simp, ?_, ?_, ?_, ?_⟩, ?_, ?_, ?_⟩ <;>
    simp [State.frameFailed, State.abort_of_fg hc, State.transportFaulted, fTransport_lt]

/-- What a failed frame leaves in BG (40 R68). -/
theorem State.frameFailed_bg {s : State} (h : s.ctx = .bg) (k : FrameKind) (bs : List Byte) :
    QuietStep s (s.frameFailed k bs) ∧ (s.frameFailed k bs).fg = s.fg
      ∧ (s.frameFailed k bs).bg = { s.bg with err := true, inSegment := false, active := false }
      ∧ (s.frameFailed k bs).transportFaulted = true := by
  have hc : (((s.beginFrame k bs).log (.frameFailed k bs)).raiseFault fTransport).ctx = .bg := by simp [h]
  refine ⟨⟨by simp, ?_, ?_, ?_, ?_⟩, ?_, ?_, ?_⟩ <;>
    simp [State.frameFailed, State.abort_of_bg hc, State.transportFaulted, fTransport_lt]

/-- Everything a quiet micro-op can do in FG. -/
inductive FgQuiet (s t : State) : Prop
  | advances (q : QuietStep s t) (regs : t.regs = s.regs) (fg : t.fg = { s.fg with pc := s.fg.pc + 1 })
      (bg : t.bg = s.bg ∨ t.bg = { s.bg with inSegment := false })
  | stays (q : QuietStep s t) (regs : t.regs = s.regs) (fg : t.fg = s.fg)
      (bg : t.bg = s.bg ∨ t.bg = { s.bg with inSegment := false })
  | aborts (q : QuietStep s t) (fg : t.fg = { s.fg with active := false }) (bg : t.bg = s.bg)
      (fault : t.transportFaulted = true)

/-- Everything a quiet micro-op can do in BG. -/
inductive BgQuiet (s t : State) : Prop
  | advances (q : QuietStep s t) (regs : t.regs = s.regs) (fg : t.fg = s.fg) (seg : Bool)
      (bg : t.bg = { s.bg with pc := s.bg.pc + 1, inSegment := seg })
  | stays (q : QuietStep s t) (regs : t.regs = s.regs) (fg : t.fg = s.fg) (seg : Bool)
      (bg : t.bg = { s.bg with inSegment := seg })
  | aborts (q : QuietStep s t) (fg : t.fg = s.fg)
      (bg : t.bg = { s.bg with err := true, inSegment := false, active := false })
      (fault : t.transportFaulted = true)

theorem State.emitOp_fgQuiet {s : State} (h : s.ctx = .fg) (k : FrameKind) (bs : List Byte) (bi : Bool) :
    FgQuiet s (s.emitOp k bs bi) := by
  rcases s.emitOp_cases k bs bi with ⟨-, e⟩ | ⟨-, e⟩ <;> rw [e]
  · have hc : (s.frameSent k bs bi).ctx = .fg := by simp [h]
    refine .advances ⟨?_, ?_, ?_, ?_, ?_⟩ ?_ ?_ (.inl ?_) <;> simp [State.advance_of_fg hc]
  · obtain ⟨q, hf, hb, ht⟩ := State.frameFailed_fg h k bs
    exact .aborts q hf hb ht

theorem State.emitOp_bgQuiet {s : State} (h : s.ctx = .bg) (k : FrameKind) (bs : List Byte) (bi : Bool) :
    BgQuiet s (s.emitOp k bs bi) := by
  rcases s.emitOp_cases k bs bi with ⟨-, e⟩ | ⟨-, e⟩ <;> rw [e]
  · have hc : (s.frameSent k bs bi).ctx = .bg := by simp [h]
    refine .advances ⟨?_, ?_, ?_, ?_, ?_⟩ ?_ ?_ true ?_ <;> simp [State.advance_of_bg hc]
  · obtain ⟨q, hf, hb, ht⟩ := State.frameFailed_bg h k bs
    exact .aborts q hf hb ht

/-- Everything a quiet micro-op can do in FG, from `exec`. -/
theorem exec_fgQuiet {s t : State} (h : s.ctx = .fg) {op : MicroOp} (hq : op.quiet = true)
    (he : exec op.toInstr s = .next t) : FgQuiet s t := by
  cases op with
  | endProg => simp [MicroOp.quiet] at hq
  | assign ps => simp [MicroOp.quiet] at hq
  | cmd o bi => injection he with he; exact he ▸ State.emitOp_fgQuiet h _ _ _
  | data b bs bi => injection he with he; exact he ▸ State.emitOp_fgQuiet h _ _ _
  | row src r =>
    cases src with
    | blank => injection he with he; exact he ▸ State.emitOp_fgQuiet h _ _ _
    | fb =>
      simp only [MicroOp.toInstr, exec, execUopRow] at he
      split at he
      · injection he with he; exact he ▸ State.emitOp_fgQuiet h _ _ _
      · simp at he
  | rstp =>
    injection he with he
    have hc : s.pulse.ctx = .fg := by simp [h]
    subst he
    refine .advances ⟨?_, ?_, ?_, ?_, ?_⟩ ?_ ?_ (.inl ?_) <;> simp [State.advance_of_fg hc]
  | waitr =>
    injection he with he
    have hc : s.afterSample.ctx = .fg := by simp [h]
    subst he
    split
    · refine .stays ⟨?_, ?_, ?_, ?_, ?_⟩ ?_ ?_ (.inl ?_) <;> simp [State.stay_of_fg hc]
    · refine .advances ⟨?_, ?_, ?_, ?_, ?_⟩ ?_ ?_ (.inl ?_) <;> simp [State.advance_of_fg hc]
  | waitry =>
    injection he with he
    have hc : s.afterSample.ctx = .fg := by simp [h]
    subst he
    split
    · refine .stays ⟨?_, ?_, ?_, ?_, ?_⟩ ?_ ?_ (.inr ?_) <;> simp
    · refine .advances ⟨?_, ?_, ?_, ?_, ?_⟩ ?_ ?_ (.inl ?_) <;> simp [State.advance_of_fg hc]
  | yieldPoint =>
    injection he with he
    subst he
    refine .advances ⟨?_, ?_, ?_, ?_, ?_⟩ ?_ ?_ (.inl ?_) <;> simp [h, State.advance_of_fg h]
  | havocFb =>
    injection he with he
    have hc : s.havocFb.ctx = .fg := by simp [h]
    subst he
    refine .advances ⟨?_, ?_, ?_, ?_, ?_⟩ ?_ ?_ (.inl ?_) <;> simp [State.advance_of_fg hc]

/-- Everything a quiet micro-op can do in BG, from `exec`. -/
theorem exec_bgQuiet {s t : State} (h : s.ctx = .bg) {op : MicroOp} (hq : op.quiet = true)
    (he : exec op.toInstr s = .next t) : BgQuiet s t := by
  cases op with
  | endProg => simp [MicroOp.quiet] at hq
  | assign ps => simp [MicroOp.quiet] at hq
  | cmd o bi => injection he with he; exact he ▸ State.emitOp_bgQuiet h _ _ _
  | data b bs bi => injection he with he; exact he ▸ State.emitOp_bgQuiet h _ _ _
  | row src r =>
    cases src with
    | blank => injection he with he; exact he ▸ State.emitOp_bgQuiet h _ _ _
    | fb =>
      simp only [MicroOp.toInstr, exec, execUopRow] at he
      split at he
      · injection he with he; exact he ▸ State.emitOp_bgQuiet h _ _ _
      · simp at he
  | rstp =>
    injection he with he
    have hc : s.pulse.ctx = .bg := by simp [h]
    subst he
    refine .advances ⟨?_, ?_, ?_, ?_, ?_⟩ ?_ ?_ true ?_ <;> simp [State.advance_of_bg hc]
  | waitr =>
    injection he with he
    have hc : s.afterSample.ctx = .bg := by simp [h]
    subst he
    split
    · refine .stays ⟨?_, ?_, ?_, ?_, ?_⟩ ?_ ?_ true ?_ <;> simp [State.stay_of_bg hc]
    · refine .advances ⟨?_, ?_, ?_, ?_, ?_⟩ ?_ ?_ true ?_ <;> simp [State.advance_of_bg hc]
  | waitry =>
    injection he with he
    have hc : s.afterSample.ctx = .bg := by simp [h]
    subst he
    split
    · refine .stays ⟨?_, ?_, ?_, ?_, ?_⟩ ?_ ?_ false ?_ <;> simp
    · refine .advances ⟨?_, ?_, ?_, ?_, ?_⟩ ?_ ?_ true ?_ <;> simp [State.advance_of_bg hc]
  | yieldPoint =>
    injection he with he
    subst he
    refine .advances ⟨?_, ?_, ?_, ?_, ?_⟩ ?_ ?_ false ?_ <;> simp [h, State.advance_of_bg h]
  | havocFb =>
    injection he with he
    have hc : s.havocFb.ctx = .bg := by simp [h]
    subst he
    refine .advances ⟨?_, ?_, ?_, ?_, ?_⟩ ?_ ?_ true ?_ <;> simp [State.advance_of_bg hc]

/-- A context's current micro-op and what it has still to run. -/
theorem drop_of_getElem? {l : List MicroOp} {n : Nat} {op : MicroOp} (h : l[n]? = some op) :
    l.drop n = op :: l.drop (n + 1) := by
  obtain ⟨hn, he⟩ := List.getElem?_eq_some_iff.mp h
  rw [← he]; exact List.drop_eq_getElem_cons hn

end Sys2Proof.Machine
end

