-- ==== Sys2Proof/Laws/Frames.lean ====
section
/-! SUPPORT. What a frame, a pulse, a sample and a move of the pc do, said once in the terms of Safety.lean:
the statements about the micro-ops cite these and do not unfold the operations. -/

namespace Sys2Proof.Machine

/-! ### Moves of a context -/

theorem State.advance_moved (s : State) : ContextMoved s s.advance 1 true := by
  unfold ContextMoved State.advance; cases h : s.ctx <;> simp

theorem State.stay_moved (s : State) : ContextMoved s s.stay 0 true := by
  unfold ContextMoved State.stay; cases h : s.ctx <;> simp

/-- A move after an operation that leaves the contexts alone is a move of the state before it. -/
theorem ContextMoved.of_same {s t u : State} {n : Nat} {seg : Bool} (h : ContextMoved t u n seg)
    (ctx : t.ctx = s.ctx) (fg : t.fg = s.fg) (bg : t.bg = s.bg) : ContextMoved s u n seg := by
  simpa only [ContextMoved, ctx, fg, bg] using h

theorem SameBytes.of_fb {s t : State} (h : t.fb = s.fb) (h' : t.fbEra = s.fbEra) : SameBytes s t :=
  State.memRead_congr h h'

/-! ### The panel and the samples -/

/-- A busy event is the panel's alone, and what is outside keeps its lists. -/
theorem State.panelBusyEvent_outside (s : State) :
    s.panelBusyEvent.env.host = s.env.host ∧ s.panelBusyEvent.env.rdata = s.env.rdata
      ∧ s.panelBusyEvent.env.turns = s.env.turns := by
  unfold State.panelBusyEvent
  split
  · exact ⟨rfl, rfl, rfl⟩
  · simp only [State.afterAnswer, Env.afterAnswer]; split <;> exact ⟨rfl, rfl, rfl⟩

theorem State.panelBusyEvent_raised (s : State) : PanelRaised s s.panelBusyEvent s.answer := by
  unfold PanelRaised State.panelBusyEvent; split <;> rfl

theorem State.afterSample_eq (s : State) :
    s.afterSample = { s with trace := s.trace ++ [.sample s.sampleValue], env := s.afterSample.env } := by
  unfold State.afterSample; split <;> rfl

/-- What a sample reads, awake and asleep (60 R124). -/
theorem State.sample_spec (s : State) :
    (s.mon.asleep = false → s.sampleValue = s.panel.pbusy ∧ s.afterSample.env = s.env)
      ∧ (s.mon.asleep = true → s.sampleValue = s.answer ∧ s.afterSample.env = s.afterAnswer.env) := by
  constructor <;> intro h <;> simp [State.sampleValue, State.afterSample, h]

/-! ### Frames -/

theorem wireBits_getLastD (bs : List Byte) (d : Bool) :
    (wireBits bs).getLastD d = match bs.getLast? with
      | some b => b.getLsbD 0
      | none => d := by
  rcases List.eq_nil_or_concat bs with rfl | ⟨l, b, rfl⟩
  · rfl
  · simp [wireBits, byteBits, List.getLastD_eq_getLast?]

theorem State.beginFrame_drove (s : State) (k : FrameKind) (bs : List Byte) : DroveFrame s (s.beginFrame k bs) k bs where
  dc := by cases k <;> rfl
  cs := rfl
  sclk := rfl
  mosi := wireBits_getLastD bs _
  rst := rfl
  mon := by
    rw [State.beginFrame_mon]
    generalize s.mon = m
    obtain ⟨asleep, valid, fault⟩ := m
    cases asleep <;> cases s.panel.pbusy <;> simp [Monitor.record, mAsleep, mPanelBusy]
  cfg := rfl
  bytes := fun _ => rfl
  fb := ⟨rfl, rfl⟩
  ctx := rfl
  outside := by
    simp only [State.beginFrame_env, Env.afterAnswer]
    split <;> exact ⟨rfl, rfl, rfl⟩

/-- A driven frame, seen after an update of other fields. -/
theorem DroveFrame.congr {s t u : State} {k : FrameKind} {bs : List Byte} (h : DroveFrame s t k bs)
    (pins : u.pins = t.pins) (mon : u.mon = t.mon) (cfg : u.cfg = t.cfg) (fb : u.fb = t.fb) (era : u.fbEra = t.fbEra)
    (ctx : u.ctx = t.ctx)
    (env : u.env.host = t.env.host ∧ u.env.rdata = t.env.rdata ∧ u.env.turns = t.env.turns) :
    DroveFrame s u k bs := by
  obtain ⟨h1, h2, h3, h4, h5, h6, h7, h8, ⟨h9, h10⟩, h11, h12, h13, h14⟩ := h
  obtain ⟨e1, e2, e3⟩ := env
  constructor
  · rw [pins, h1]
  · rw [pins, h2]
  · rw [pins, h3]
  · rw [pins, h4]
  · rw [pins, h5]
  · rw [mon, h6]
  · rw [cfg, h7]
  · exact SameBytes.of_fb (fb.trans h9) (era.trans h10)
  · exact ⟨fb.trans h9, era.trans h10⟩
  · rw [ctx, h11]
  · exact ⟨e1.trans h12, e2.trans h13, e3.trans h14⟩

/-- Everything a frame that goes out does (40 R67). -/
theorem State.frameSent_spec (s : State) (k : FrameKind) (bs : List Byte) (bi : Bool) :
    SentFrame s (s.frameSent k bs bi) k bs bi where
  drove := by
    refine (s.beginFrame_drove k bs).congr (by simp) (by simp) (by simp) (by simp) (by simp) (by simp) ?_
    cases bi
    · exact ⟨rfl, rfl, rfl⟩
    · exact ((s.beginFrame k bs).log (.frame k bs)).panelBusyEvent_outside
  trace := by simp
  regs := by simp
  refresh := by simp
  quietPanel := by rintro rfl; rfl
  busyPanel := by
    rintro rfl
    exact ((s.beginFrame k bs).log (.frame k bs)).panelBusyEvent_raised

/-- Everything a frame that fails does (40 R67, R68). -/
theorem State.frameFailed_spec (s : State) (k : FrameKind) (bs : List Byte) : FailedFrame s (s.frameFailed k bs) k bs where
  drove := (s.beginFrame_drove k bs).congr (by simp) (by simp) (by simp) (by simp) (by simp) (by simp) (by simp)
  regs := by simp [fTransport]
  panel := by simp
  foreground := fun h => by
    have hc : (((s.beginFrame k bs).log (.frameFailed k bs)).raiseFault fTransport).ctx = .fg := by simp [h]
    simp [State.frameFailed, State.abort_of_fg hc]
  background := fun h => by
    have hc : (((s.beginFrame k bs).log (.frameFailed k bs)).raiseFault fTransport).ctx = .bg := by simp [h]
    simp [State.frameFailed, State.abort_of_bg hc]

/-- A frame that went out, seen after its context has advanced. -/
theorem SentFrame.advance {s t : State} {k : FrameKind} {bs : List Byte} {bi : Bool} (h : SentFrame s t k bs bi)
    (fg : t.fg = s.fg) (bg : t.bg = s.bg) : SentFrame s t.advance k bs bi ∧ ContextMoved s t.advance 1 true := by
  obtain ⟨d, tr, rg, rf, pq, pb⟩ := h
  refine ⟨⟨d.congr (by simp) (by simp) (by simp) (by simp) (by simp) (by simp) (by simp), by simpa, by simpa, by simpa,
    by simpa, ?_⟩, t.advance_moved.of_same d.ctx fg bg⟩
  intro hb
  simpa [PanelRaised] using pb hb

/-! ### Rows -/

theorem rowExists_of_lt {h r : Nat} (hr : r < h) : rowExists h r = true := by
  cases r <;> simp [rowExists, hr]

theorem xor_ff (b : Byte) : b ^^^ 0xFF#8 = ~~~ b := by revert b; decide

/-- The bytes of a row are the buffer's with every bit flipped (40 R72). -/
theorem State.rowBytes_eq (s : State) (r : Nat) :
    s.rowBytes r = (List.range s.cfg.stride).map fun k => s.memRead (r * s.cfg.stride + k) ^^^ 0xFF#8 := by
  simp [State.rowBytes, xor_ff]

theorem blankBytes_eq (c : Cfg) : blankBytes c = List.replicate c.stride 0xFF#8 := by simp [blankBytes]

end Sys2Proof.Machine
end

