-- ==== Sys2Proof/Laws/PerInstr.lean ====
section
/-! SUPPORT. The laws stated per instruction. The family `FirstByte` ties the encoder to
spec/opcode_table.json row by row: the first byte of an instruction's encoding is the `OP` of its `CMD`
word (30 R56), its micro-op code (30 R62), or, for a wire row, what the frame or the group begins with. -/

namespace Sys2Proof.Laws

/-- The first byte that the table, or the model's numbering of the groups (log 7), gives an instruction. -/
def firstByte : Instr → Byte
  | .initFull => 0x1
  | .selectFull => 0x2
  | .selectPartial => 0x3
  | .showRefresh => 0x4
  | .clear => 0x5
  | .sleep => 0x6
  | .reset => 0x7
  | .waitReady => 0x8
  | .setPixel => 0x9
  | .getPixel => 0xA
  | .fill => 0xB
  | .readByte => 0xC
  | .writeByte => 0xD
  | .reservedOp0 => 0x0
  | .reservedOpE => 0xE
  | .reservedOpF => 0xF
  | .reservedHighBits hi op => hi.extractLsb' 0 4 ++ op
  | .uopEnd => 0x0
  | .uopCmd _ _ => 0x1
  | .uopData _ _ _ => 0x2
  | .uopRow _ _ => 0x3
  | .uopRstp => 0x4
  | .uopWaitr => 0x5
  | .uopWaitry => 0x6
  | .uopYield => 0x7
  | .uopSet _ => 0x8
  | .uopHavocFb => 0x9
  | .wireCommandFrame op => op
  | .wireDataFrame b _ => b
  | .wireSwreset => 0
  | .wireDem => 1
  | .wireBorderFull => 2
  | .wireBorderPartial => 3
  | .wireDucPartial => 4
  | .wireWindow => 5
  | .wireCursor => 6
  | .wireActFull => 7
  | .wireActPartial => 8
  | .wireSleep => 9
  | .wireForce => 10
  | .wireWriteCur _ => 11
  | .wireWritePrev _ => 12

/-- An instruction's encoding begins with that byte. -/
def FirstByte.Statement (i : Instr) : Prop := (encode i).2.head? = some (firstByte i)

theorem FirstByte.initFull : FirstByte.Statement .initFull := rfl
theorem FirstByte.selectFull : FirstByte.Statement .selectFull := rfl
theorem FirstByte.selectPartial : FirstByte.Statement .selectPartial := rfl
theorem FirstByte.showRefresh : FirstByte.Statement .showRefresh := rfl
theorem FirstByte.clear : FirstByte.Statement .clear := rfl
theorem FirstByte.sleep : FirstByte.Statement .sleep := rfl
theorem FirstByte.reset : FirstByte.Statement .reset := rfl
theorem FirstByte.waitReady : FirstByte.Statement .waitReady := rfl
theorem FirstByte.setPixel : FirstByte.Statement .setPixel := rfl
theorem FirstByte.getPixel : FirstByte.Statement .getPixel := rfl
theorem FirstByte.fill : FirstByte.Statement .fill := rfl
theorem FirstByte.readByte : FirstByte.Statement .readByte := rfl
theorem FirstByte.writeByte : FirstByte.Statement .writeByte := rfl
theorem FirstByte.reservedOp0 : FirstByte.Statement .reservedOp0 := rfl
theorem FirstByte.reservedOpE : FirstByte.Statement .reservedOpE := rfl
theorem FirstByte.reservedOpF : FirstByte.Statement .reservedOpF := rfl
theorem FirstByte.reservedHighBits (hi : BitVec 28) (op : BitVec 4) : FirstByte.Statement (.reservedHighBits hi op) := by
  simp only [FirstByte.Statement, encode, hostWordBytes, firstByte, List.head?_cons, Option.some.injEq]
  apply BitVec.eq_of_getLsbD_eq
  intro i h
  simp only [BitVec.getLsbD_extractLsb', BitVec.getLsbD_append]
  by_cases h4 : i < 4
  · simp [h4, h]
  · have : i - 4 < 4 := by omega
    simp [h4, h, this]
theorem FirstByte.uopEnd : FirstByte.Statement .uopEnd := rfl
theorem FirstByte.uopCmd (op : Byte) (bi : Bool) : FirstByte.Statement (.uopCmd op bi) := rfl
theorem FirstByte.uopData (b : Byte) (bs : List Byte) (bi : Bool) : FirstByte.Statement (.uopData b bs bi) := rfl
theorem FirstByte.uopRow (src : RowSrc) (r : Nat) : FirstByte.Statement (.uopRow src r) := rfl
theorem FirstByte.uopRstp : FirstByte.Statement .uopRstp := rfl
theorem FirstByte.uopWaitr : FirstByte.Statement .uopWaitr := rfl
theorem FirstByte.uopWaitry : FirstByte.Statement .uopWaitry := rfl
theorem FirstByte.uopYield : FirstByte.Statement .uopYield := rfl
theorem FirstByte.uopSet (pairs : List Assign) : FirstByte.Statement (.uopSet pairs) := rfl
theorem FirstByte.uopHavocFb : FirstByte.Statement .uopHavocFb := rfl
theorem FirstByte.wireCommandFrame (op : Byte) : FirstByte.Statement (.wireCommandFrame op) := rfl
theorem FirstByte.wireDataFrame (b : Byte) (bs : List Byte) : FirstByte.Statement (.wireDataFrame b bs) := rfl
theorem FirstByte.wireSwreset : FirstByte.Statement .wireSwreset := rfl
theorem FirstByte.wireDem : FirstByte.Statement .wireDem := rfl
theorem FirstByte.wireBorderFull : FirstByte.Statement .wireBorderFull := rfl
theorem FirstByte.wireBorderPartial : FirstByte.Statement .wireBorderPartial := rfl
theorem FirstByte.wireDucPartial : FirstByte.Statement .wireDucPartial := rfl
theorem FirstByte.wireWindow : FirstByte.Statement .wireWindow := rfl
theorem FirstByte.wireCursor : FirstByte.Statement .wireCursor := rfl
theorem FirstByte.wireActFull : FirstByte.Statement .wireActFull := rfl
theorem FirstByte.wireActPartial : FirstByte.Statement .wireActPartial := rfl
theorem FirstByte.wireSleep : FirstByte.Statement .wireSleep := rfl
theorem FirstByte.wireForce : FirstByte.Statement .wireForce := rfl
theorem FirstByte.wireWriteCur (src : RowSrc) : FirstByte.Statement (.wireWriteCur src) := rfl
theorem FirstByte.wireWritePrev (src : RowSrc) : FirstByte.Statement (.wireWritePrev src) := rfl

end Sys2Proof.Laws
end

