-- ==== Sys2Proof/Machine/Assembly.lean ====
section
/-! DEFINITION. The host's assembly syntax and pseudo-instructions (30 R63, R64) as lists of accesses. -/

namespace Sys2Proof.Machine

/-- The lines of a host program (30 R63, R64), by the spec's names. -/
inductive Asm where
  | wr (offset imm : Word)
  | rd (offset : Word)
  | initFull (f : Word)
  | selectFull
  | selectPartial
  | showRefresh
  | clear
  | sleep
  | reset
  | waitReady
  | setpx (x y v : Word)
  | getpx (x y : Word)
  | fill (v : Word)
  | rdb (i : Word)
  | wrb (i b : Word)
  | pollAccept
  | pollIdle
  | pollUpdated
  | pollComplete
  | showWait
  deriving DecidableEq, Repr, Inhabited

/-- `WR <reg>, <imm>`. -/
def writeReg (off v : Word) : Access := .write 4 off v

/-- The expansion of one line (the tables of 30 R63 and R64). Registers that an operation does not use
are not written. -/
def Asm.expand : Asm → List Access
  | .wr off imm => [writeReg off imm]
  | .rd off => [.read 4 off]
  | .initFull f => [writeReg offArg2 f, writeReg offCmd 0x1]
  | .selectFull => [writeReg offCmd 0x2]
  | .selectPartial => [writeReg offCmd 0x3]
  | .showRefresh => [writeReg offCmd 0x4]
  | .clear => [writeReg offCmd 0x5]
  | .sleep => [writeReg offCmd 0x6]
  | .reset => [writeReg offCmd 0x7]
  | .waitReady => [writeReg offCmd 0x8]
  | .setpx x y v => [writeReg offArg0 x, writeReg offArg1 y, writeReg offArg2 v, writeReg offCmd 0x9]
  | .getpx x y => [writeReg offArg0 x, writeReg offArg1 y, writeReg offCmd 0xA]
  | .fill v => [writeReg offArg2 v, writeReg offCmd 0xB]
  | .rdb i => [writeReg offArg0 i, writeReg offCmd 0xC]
  | .wrb i b => [writeReg offArg0 i, writeReg offArg2 b, writeReg offCmd 0xD]
  | .pollAccept => [.poll 7 true]
  | .pollIdle => [.poll 0 false]
  | .pollUpdated => [.poll 5 true]
  | .pollComplete => [.poll 6 true]
  | .showWait => [writeReg offCmd 0x4, .poll 0 false]

/-- A host program as the accesses it makes. -/
def assemble (prog : List Asm) : List Access := prog.flatMap Asm.expand

end Sys2Proof.Machine
end

