-- ==== Sys2Proof/Tests/Slice0.lean ====
section
/-! SUPPORT. The tests of the model: well-formedness with an ill-formed term for each check, decoding by words
written out from the spec's encodings, one step per vector of spec/95_test_vectors.md, and a witness for
the hypotheses of every statement that has some. Expected results come from spec/95 unless a comment
says otherwise. -/

namespace Sys2Proof.Tests

open Sys2Proof Sys2Proof.Machine

/-! ### The reference configuration (00 R7, 30 R61) and the state `S_boot` (95 section 0) -/

def rcTable : Wcfg where
  swreset := [(0x12, [])]
  dem := [(0x11, [0x03])]
  borderFull := [(0x3C, [0x05])]
  borderPartial := [(0x3C, [0x80])]
  ducPartial := [(0x21, [0x00, 0x80])]
  window := [(0x44, [0x00, 0x01]), (0x45, [0x00, 0x00, 0x01, 0x00])]
  cursor := [(0x4E, [0x00]), (0x4F, [0x00, 0x00])]
  actFull := [(0x22, [0xF7]), (0x20, [])]
  actPartial := [(0x22, [0xFF]), (0x20, [])]
  sleep := [(0x10, [0x01])]
  force := []
  writeCur := 0x24
  writePrev := 0x26

def rc : Cfg where
  width := 10
  height := 2
  initPartial := false
  partialSupported := true
  asyncRuntime := false
  yieldBatch := 1
  pollInterval := 100
  tRstActive := 0
  tRstRecover := 0
  csActive := false
  dcCmd := false
  dcData := true
  rstActive := false
  busyActive := true
  spiMode := 0
  wcfg := rcTable
  lut := []
  busyGroups := [.swreset, .actFull, .actPartial]
  panelLateBusy := false
  hostBase := 0x40000000

def rcAsync : Cfg := { rc with asyncRuntime := true }

/-- The buffer with the four bytes given. -/
def fb4 (a b c d : Byte) : Memory := [(0, a), (1, b), (2, c), (3, d)]

/-- `S_boot` with the buffer given, and every draw answered `true` at first. -/
def boot (c : Cfg) (fb : Memory) : State where
  cfg := c
  regs := { arg0 := 0, arg1 := 0, arg2 := 0, result := 0, fault := 0 }
  refresh := { fsm := .idle, mode := .fullMode, updated := false, complete := false, resultCode := .ok }
  fg := { active := false, op := .construct, prog := [], pc := 0 }
  bg := { active := false, prog := [], pc := 0, inSegment := false, err := false }
  fb := fb
  fbEra := 1
  pins := { cs := true, dc := false, rst := true, sclk := false, mosi := false }
  mon := { asleep := false, fullCfgValid := true, fault := 0 }
  panel := { pbusy := false, ppend := false }
  trace := []
  ctx := .fg
  env := { host := [], rdata := 0, turns := [], answers := [true, false], draws := 0 }

def zeros : State := boot rc (fb4 0 0 0 0)

def withArgs (s : State) (a0 a1 a2 : Word) : State :=
  { s with regs := { s.regs with arg0 := a0, arg1 := a1, arg2 := a2 } }

def withFsm (s : State) (f : Fsm) : State := { s with refresh := { s.refresh with fsm := f } }

def withAnswers (s : State) (bs : List Bool) : State := { s with env := { s.env with answers := bs } }

def onTurn (s : State) (t : Turn) : State := { s with env := { s.env with turns := [t] } }

/-- The host makes one access, and it is its turn. -/
def hostDoes (s : State) (a : Access) : State := { s with env := { s.env with host := [a], turns := [.host] } }

/-- FG runs a program, at its start, and it is its turn. -/
def fgRuns (s : State) (prog : List MicroOp) : State :=
  { s with
    fg := { active := true, op := .host 0x4, prog := prog, pc := 0 }
    env := { s.env with turns := [.fg] } }

/-- BG runs the asynchronous refresh of `rcAsync` from a pc of it (95 W3), and it is its turn. -/
def bgAt (pc : Nat) (inSegment updated complete : Bool) (fsm : Fsm) : State :=
  let s := boot rcAsync (fb4 0x80 0 0 0)
  { s with
    refresh := { s.refresh with fsm := fsm, updated := updated, complete := complete }
    bg := { active := true, prog := rcAsync.pFullAsync, pc := pc, inSegment := inSegment, err := false }
    ctx := .bg
    env := { s.env with turns := [.bg] } }

/-- The next state of an outcome, or the state given. -/
def nextOr (s : State) : Result → State
  | .next t => t
  | .fault _ | .refused _ => s

def isNext : Result → Bool
  | .next _ => true
  | .fault _ | .refused _ => false

theorem next_of {s : State} {r : Result} (h : isNext r = true) : r = .next (nextOr s r) := by
  cases r <;> simp [isNext, nextOr] at h ⊢

/-- The state that an instruction leaves. -/
def ran (i : Instr) (s : State) : State := nextOr s (exec i s)

/-- The state that a step leaves. -/
def stepped (s : State) : State := nextOr s (step s)

/-! ### Well-formedness: a well-formed term, and an ill-formed one for each check -/

theorem test_wf_rc : rc.wf = true := by decide
theorem test_wf1_width : Cfg.wf { rc with width := 0 } = false := by decide
theorem test_wf1_height : Cfg.wf { rc with height := 65536 } = false := by decide
theorem test_wf2_batch : Cfg.wf { rc with yieldBatch := 3 } = false := by decide
theorem test_wf3_partial : Cfg.wf { rc with initPartial := true, partialSupported := false } = false := by decide
theorem test_wf4_border : Cfg.wf { rc with wcfg := { rcTable with borderPartial := [(0x3C, [0x05])] } } = false := by
  decide
theorem test_wf5_registers : Cfg.wf { rc with wcfg := { rcTable with writePrev := 0x24 } } = false := by decide
theorem test_wf6_group : Cfg.wf { rc with wcfg := { rcTable with cursor := [] } } = false := by decide
theorem test_wf_row : Instr.wellFormed rc (.uopRow .fb 1) = true ∧ Instr.wellFormed rc (.uopRow .fb 2) = false := by
  decide
theorem test_wf_set : Instr.wellFormed rc (.uopSet [.fsm .idle, .complete true]) = true
    ∧ Instr.wellFormed rc (.uopSet [.updated true, .updated false]) = false := by decide
theorem test_wf_highBits : Instr.wellFormed rc (.reservedHighBits 1 4) = true
    ∧ Instr.wellFormed rc (.reservedHighBits 0 4) = false := by decide

/-! ### Decoding: every constructor from a word written out -/

/-- 30 R56's table, and the reserved words of 95 E2 to E6. -/
theorem test_decode_hostWords :
    [0x1#32, 0x2#32, 0x3#32, 0x4#32, 0x5#32, 0x6#32, 0x7#32, 0x8#32, 0x9#32, 0xA#32, 0xB#32, 0xC#32, 0xD#32,
        0x0#32, 0xE#32, 0xF#32, 0x14#32, 0x80000001#32].map decodeHostWord
      = [.initFull, .selectFull, .selectPartial, .showRefresh, .clear, .sleep, .reset, .waitReady, .setPixel, .getPixel,
        .fill, .readByte, .writeByte, .reservedOp0, .reservedOpE, .reservedOpF, .reservedHighBits 0x0000001 0x4,
        .reservedHighBits 0x8000000 0x1] := by decide

/-- A host word's bytes come lowest first (log 8). -/
theorem test_decode_hostBytes : decode .hostWord [0x04, 0x00, 0x00, 0x00] = .ok (.showRefresh, [])
    ∧ decode .hostWord [0x00, 0x00, 0x00, 0x04] = .ok (.reservedHighBits 0x0400000 0x0, [])
    ∧ decode .hostWord [0x04, 0x00] = .error .truncated := ⟨rfl, rfl, rfl⟩

/-- 30 R62's codes; the operand bytes are the model's (log 7). -/
theorem test_decode_microOps :
    decode .microOp [0x0] = .ok (.uopEnd, []) ∧ decode .microOp [0x1, 0x20, 1] = .ok (.uopCmd 0x20 true, [])
      ∧ decode .microOp [0x2, 0, 1, 0x00, 0, 0x01] = .ok (.uopData 0x00 [0x01] false, [])
      ∧ decode .microOp [0x3, 1, 0x02, 0x01] = .ok (.uopRow .blank 258, [])
      ∧ decode .microOp [0x4] = .ok (.uopRstp, []) ∧ decode .microOp [0x5] = .ok (.uopWaitr, [])
      ∧ decode .microOp [0x6] = .ok (.uopWaitry, []) ∧ decode .microOp [0x7] = .ok (.uopYield, [])
      ∧ decode .microOp [0x8, 2, 1, 6, 0, 0] = .ok (.uopSet [.mode .partialMode, .monFullCfgValid false], [])
      ∧ decode .microOp [0x9] = .ok (.uopHavocFb, []) :=
  ⟨rfl, rfl, rfl, rfl, rfl, rfl, rfl, rfl, rfl, rfl⟩

theorem test_decode_microOps_refused : decode .microOp [0xA] = .error .unknownMicroOp
    ∧ decode .microOp [0x1, 0x20, 2] = .error .badFlag ∧ decode .microOp [0x8, 7, 0, 0] = .error .badField
    ∧ decode .microOp [0x8, 1, 3, 0] = .error .badValue ∧ decode .microOp [0x3, 0] = .error .truncated :=
  ⟨rfl, rfl, rfl, rfl, rfl⟩

/-- 30 R58: a command frame is one byte, a data frame one or more. -/
theorem test_decode_frames : decode (.wireFrame .command) [0x12] = .ok (.wireCommandFrame 0x12, [])
    ∧ decode (.wireFrame .data) [0x00, 0x01] = .ok (.wireDataFrame 0x00 [0x01], [])
    ∧ decode (.wireFrame .command) [0x12, 0x34] = .error .commandFrameTooLong
    ∧ decode (.wireFrame .data) [] = .error .emptyFrame := ⟨rfl, rfl, rfl, rfl⟩

/-- The groups in the order of 30 R60's table (log 7). -/
theorem test_decode_groups :
    decode .wireGroup [0] = .ok (.wireSwreset, []) ∧ decode .wireGroup [1] = .ok (.wireDem, [])
      ∧ decode .wireGroup [2] = .ok (.wireBorderFull, []) ∧ decode .wireGroup [3] = .ok (.wireBorderPartial, [])
      ∧ decode .wireGroup [4] = .ok (.wireDucPartial, []) ∧ decode .wireGroup [5] = .ok (.wireWindow, [])
      ∧ decode .wireGroup [6] = .ok (.wireCursor, []) ∧ decode .wireGroup [7] = .ok (.wireActFull, [])
      ∧ decode .wireGroup [8] = .ok (.wireActPartial, []) ∧ decode .wireGroup [9] = .ok (.wireSleep, [])
      ∧ decode .wireGroup [10] = .ok (.wireForce, []) ∧ decode .wireGroup [11, 0] = .ok (.wireWriteCur .fb, [])
      ∧ decode .wireGroup [12, 1] = .ok (.wireWritePrev .blank, []) ∧ decode .wireGroup [13] = .error .unknownGroup :=
  ⟨rfl, rfl, rfl, rfl, rfl, rfl, rfl, rfl, rfl, rfl, rfl, rfl, rfl, rfl⟩

theorem test_tableWord : decodeTableWord 32 0x4 = some .showRefresh ∧ decodeTableWord 4 0x5 = some .uopWaitr
    ∧ decodeTableWord 4 0xF = none := by decide

/-- 30 R63: `WRB 1, 0x3F` and `SHOW_WAIT` as the accesses they make. -/
theorem test_assemble : assemble [.wrb 1 0x3F, .showWait]
    = [.write 4 0x04 1, .write 4 0x0C 0x3F, .write 4 0x00 0xD, .write 4 0x00 0x4, .poll 0 false] := by decide

/-! ### Host operations -/

/-- F1's start: `RSTP` comes first, and `FORCE` is empty in `rc` (41 R85). -/
theorem test_initFull : (ran .initFull zeros).fg.prog[0]? = some .rstp ∧ (ran .initFull zeros).fg.prog.length = 19
    ∧ (ran .initFull zeros).fg.active = true ∧ (ran .initFull zeros).trace = [] := by decide
/-- F4. -/
theorem test_initFull_busy : (ran .initFull (withFsm zeros .refreshingFull)).trace = [.hostOp (.host 0x1) .faulted]
    ∧ (ran .initFull (withFsm zeros .refreshingFull)).regs.fault = 0x2 := by decide
/-- F5. -/
theorem test_selectFull : (ran .selectFull { zeros with refresh := { zeros.refresh with mode := .partialMode } }).refresh.mode
    = .fullMode := by decide
/-- F6. -/
theorem test_selectPartial : (ran .selectPartial zeros).statusWord false = 0x00000086 := by decide
/-- F7. -/
theorem test_selectPartial_unsupported :
    (ran .selectPartial { zeros with cfg := { rc with partialSupported := false } }).statusWord false = 0x00000282 := by
  decide
/-- F9. -/
theorem test_show_async : (ran .showRefresh (boot rcAsync (fb4 0 0 0 0))).statusWord false = 0x00000889 := by decide
/-- F11, with the status of 95 W3 after a rejected `SHOW`. -/
theorem test_show_busy : (ran .showRefresh (bgAt 0 false false false .refreshingFull)).statusWord false = 0x00000989 := by
  decide
/-- P_CLEAR of `rc` is two passes of `CMD` and two rows, `HAVOC_FB`, `END` (41 R95). -/
theorem test_clear : (ran .clear zeros).fg.prog = [.cmd 0x24 false, .row .blank 0, .row .blank 1, .cmd 0x26 false,
    .row .blank 0, .row .blank 1, .havocFb, .endProg] := by decide
/-- F14's frames. -/
theorem test_sleep : (ran .sleep zeros).fg.prog = [.cmd 0x10 false, .data 0x01 [] false,
    .assign [.monAsleep true, .monFullCfgValid false], .endProg] := by decide
/-- F19: `RESET` is allowed while busy. -/
theorem test_reset_busy : (ran .reset (withFsm zeros .refreshingFull)).fg.prog = [.rstp, .waitr, .endProg]
    ∧ (ran .reset (withFsm zeros .refreshingFull)).refresh.fsm = .refreshingFull := by decide
theorem test_waitReady : (ran .waitReady zeros).fg.prog = [.waitr, .endProg] ∧ (ran .waitReady zeros).accept = false := by
  decide
/-- B4. -/
theorem test_setPixel : (ran .setPixel (withArgs zeros 9 1 1)).fb = fb4 0 0 0 0x40 := by decide
/-- B6: the compare is unsigned and nothing wraps. -/
theorem test_setPixel_range : (ran .setPixel (withArgs zeros 0xFFFFFFFF 0 1)).regs.fault = 0x4
    ∧ (ran .setPixel (withArgs zeros 0xFFFFFFFF 0 1)).fb = zeros.fb := by decide
/-- B9. -/
theorem test_getPixel : (ran .getPixel (withArgs (boot rc (fb4 0 0 0 0x40)) 9 1 0)).regs.result = 1 := by decide
/-- B7's coordinate, for `GET_PIXEL`. -/
theorem test_getPixel_range : (ran .getPixel (withArgs zeros 0 2 0)).trace = [.hostOp (.host 0xA) .faulted] := by decide
/-- E7: `v` is bit 0 of `ARG2` alone. -/
theorem test_fill : (ran .fill (withArgs (boot rc []) 0 0 0xFFFFFFFE)).fb = fb4 0 0 0 0 := by decide
/-- B11. -/
theorem test_fill_ones : (ran .fill (withArgs zeros 0 0 1)).fb = fb4 0xFF 0xFF 0xFF 0xFF := by decide
/-- B13. -/
theorem test_readByte : (ran .readByte (withArgs (boot rc (fb4 0x80 0 0xFF 0xC0)) 3 0 0)).regs.result = 0xC0 := by decide
/-- B14. -/
theorem test_readByte_range : (ran .readByte (withArgs zeros 4 0 0)).regs.fault = 0x4 := by decide
/-- E8. -/
theorem test_writeByte : (ran .writeByte (withArgs zeros 1 0 0x1A5)).fb = fb4 0 0xA5 0 0 := by decide
/-- B16. -/
theorem test_writeByte_range : (ran .writeByte (withArgs zeros 4 0 0)).regs.fault = 0x4 := by decide
/-- E2 to E4. -/
theorem test_reserved : (ran .reservedOp0 zeros).statusWord false = 0x00002482
    ∧ (ran .reservedOpE zeros).trace = [.hostOp (.host 0xE) .faulted]
    ∧ (ran .reservedOpF zeros).trace = [.hostOp (.host 0xF) .faulted] := by decide
/-- X1: the encoding is checked before the state. -/
theorem test_reservedHighBits :
    (ran (decodeHostWord 0x12) (withFsm zeros .refreshingFull)).trace = [.hostOp (.host 0x2) .faulted]
      ∧ (ran (decodeHostWord 0x12) (withFsm zeros .refreshingFull)).regs.fault = 0x1 := by decide

/-! ### Micro-ops and groups -/

/-- U21's `END`. -/
theorem test_end : (ran .uopEnd (fgRuns zeros [.endProg])).accept = true
    ∧ (ran .uopEnd (fgRuns zeros [.endProg])).trace = [.hostOp (.host 0x4) .ok] := by decide
/-- W3 step 16. -/
theorem test_end_bg : (ran .uopEnd (bgAt 16 true true true .idle)).statusWord false = 0x000000E2 := by decide
/-- 40 R69's example, with `busy_now = true`. -/
theorem test_cmd : (ran (.uopCmd 0x12 true) (withAnswers zeros [true, true])).trace = [.frame .command [0x12]]
    ∧ (ran (.uopCmd 0x12 true) (withAnswers zeros [true, true])).panel.pbusy = true := by decide
/-- X9: the frame that fails, and the status after it. -/
theorem test_cmd_failed :
    (ran (.uopCmd 0x20 true) (withFsm (fgRuns (withAnswers zeros [false]) [.endProg]) .refreshingFull)).trace
        = [.frameFailed .command [0x20], .hostOp (.host 0x4) .transport]
      ∧ (ran (.uopCmd 0x20 true) (withFsm (fgRuns (withAnswers zeros [false]) [.endProg]) .refreshingFull)).statusWord false
        = 0x00002389 := by decide
/-- 40 R70's example. -/
theorem test_data : (ran (.uopData 0x03 [] false) zeros).trace = [.frame .data [0x03]]
    ∧ (ran (.uopData 0x03 [] false) zeros).pins = { zeros.pins with dc := true, mosi := true } := by decide
/-- X13: a transport fault in BG. -/
theorem test_data_failed_bg :
    (ran (.uopData 0x7F [0xFF] false) (withAnswers (bgAt 3 true false false .refreshingFull) [false])).statusWord false
      = 0x00003089 := by decide
/-- U1. -/
theorem test_row : (ran (.uopRow .fb 0) (boot rc (fb4 0x80 0 0xFF 0xC0))).trace = [.frame .data [0x7F, 0xFF]]
    ∧ (ran (.uopRow .fb 1) (boot rc (fb4 0x80 0 0xFF 0xC0))).trace = [.frame .data [0x00, 0x3F]] := by decide
/-- U3, and a row that does not exist (log 13). -/
theorem test_row_blank : (ran (.uopRow .blank 1) (boot rc (fb4 0x80 0 0xFF 0xC0))).trace = [.frame .data [0xFF, 0xFF]]
    ∧ isNext (exec (.uopRow .fb 2) zeros) = false := by decide
/-- U14. -/
theorem test_rstp : (ran .uopRstp { zeros with mon := { zeros.mon with asleep := true } }).mon
      = { asleep := false, fullCfgValid := false, fault := 0 }
    ∧ (ran .uopRstp zeros).trace = [.resetPulse] := by decide
/-- U13's busy sample: the pc stays. -/
theorem test_waitr_busy :
    (ran .uopWaitr { fgRuns zeros [.waitr, .endProg] with panel := { pbusy := true, ppend := false } }).fg.pc = 0
      ∧ (ran .uopWaitr { fgRuns zeros [.waitr, .endProg] with panel := { pbusy := true, ppend := false } }).trace
        = [.sample true] := by decide
theorem test_waitr_ready : (ran .uopWaitr (fgRuns zeros [.waitr, .endProg])).fg.pc = 1
    ∧ (ran .uopWaitr (fgRuns zeros [.waitr, .endProg])).trace = [.sample false] := by decide
/-- U15. -/
theorem test_waitry_busy :
    let s := ran .uopWaitry { bgAt 14 true true false .refreshingFull with panel := { pbusy := true, ppend := false } }
    s.bg.pc = 14 ∧ s.bg.inSegment = false ∧ s.statusWord true = 0x000008A9 := by decide
/-- U16. -/
theorem test_waitry_ready :
    let s := ran .uopWaitry (bgAt 14 false true false .refreshingFull)
    s.bg.pc = 15 ∧ s.bg.inSegment = true ∧ s.trace = [.sample false] := by decide
/-- U17. -/
theorem test_yield : (ran .uopYield (bgAt 2 true false false .refreshingFull)).bg.inSegment = false
    ∧ (ran .uopYield (bgAt 2 true false false .refreshingFull)).bg.pc = 3 := by decide
/-- U18, with the status between the steps 15 and 16 of W3. -/
theorem test_set : (ran (.uopSet [.fsm .idle, .complete true]) (bgAt 15 true true false .refreshingFull)).statusWord false
    = 0x00000862 := by decide
/-- U19: nothing that was written is left. -/
theorem test_havocFb : (ran .uopHavocFb (boot rc (fb4 1 2 3 4))).fb = []
    ∧ (ran .uopHavocFb (boot rc (fb4 1 2 3 4))).fbEra = 2 := by decide
/-- U4 to U9. -/
theorem test_groups : rc.group .swreset = [.cmd 0x12 true] ∧ rc.group .dem = [.cmd 0x11 false, .data 0x03 [] false]
    ∧ rc.group .actFull = [.cmd 0x22 false, .data 0xF7 [] false, .cmd 0x20 true]
    ∧ rc.group .window = [.cmd 0x44 false, .data 0x00 [0x01] false, .cmd 0x45 false, .data 0x00 [0x00, 0x01, 0x00] false]
    ∧ rc.group .force = []
    ∧ Cfg.group { rc with busyGroups := [.sleep] } .sleep = [.cmd 0x10 false, .data 0x01 [] true] := by decide
/-- U10 to U12. -/
theorem test_rows : rc.rows 0x24 .fb .fg = [.cmd 0x24 false, .row .fb 0, .row .fb 1]
    ∧ rc.rows 0x26 .fb .bg = [.cmd 0x26 false, .row .fb 0, .yieldPoint, .row .fb 1, .yieldPoint]
    ∧ Cfg.rows { rc with height := 3, yieldBatch := 2 } 0x24 .fb .bg
      = [.cmd 0x24 false, .row .fb 0, .row .fb 1, .yieldPoint, .row .fb 2] := by decide
/-- A group goes before the current micro-op (log 1). -/
theorem test_wireGroup : (ran .wireSwreset (fgRuns zeros [.waitr, .endProg])).fg.prog
    = [.cmd 0x12 true, .waitr, .endProg] := by decide
/-- A frame row keeps the pc (log 1). -/
theorem test_wireFrame : (ran (.wireDataFrame 0x7F [0xFF]) (fgRuns zeros [.endProg])).trace = [.frame .data [0x7F, 0xFF]]
    ∧ (ran (.wireDataFrame 0x7F [0xFF]) (fgRuns zeros [.endProg])).fg.pc = 0 := by decide
/-- 40 R66: the receiver of 30 R59 reads what was sent. -/
theorem test_frameWave : receiveFrame rc (frameWave rc zeros.pins .data [0x12, 0xFF]) = some (.data, [0x12, 0xFF]) := by
  decide

/-! ### Registers and steps -/

/-- E9 and E10. -/
theorem test_views : geomWord rc = 0x0002000A ∧ configWord rc = 0x00010002 ∧ configWord rcAsync = 0x00010003 := by decide
/-- W2a, W2b, W2c. -/
theorem test_status : (stepped (hostDoes zeros (.read 4 0x10))).env.rdata = 0x00000082
    ∧ (stepped (hostDoes { zeros with panel := { pbusy := true, ppend := false } } (.read 4 0x10))).env.rdata = 0x00000080
    ∧ (stepped (hostDoes { withFsm (fgRuns zeros [.endProg]) .refreshingPartial with
        refresh := { zeros.refresh with fsm := .refreshingPartial, mode := .partialMode } } (.read 4 0x10))).env.rdata
      = 0x00000015 := by decide
/-- E12 and E13. -/
theorem test_readOnly_unmapped : (stepped (hostDoes zeros (.write 4 0x10 0xFFFFFFFF))).statusWord false = 0x00002082
    ∧ (stepped (hostDoes zeros (.read 4 0x24))).env.rdata = 0
    ∧ (stepped (hostDoes zeros (.read 4 0x24))).regs.fault = 0x1 := by decide
/-- X7. -/
theorem test_misaligned : isNext (step (hostDoes zeros (.read 2 0x10))) = false
    ∧ isNext (step (hostDoes zeros (.write 4 0x02 0))) = false := by decide
/-- X6: a `CMD` write is held while FG runs. -/
theorem test_held : (stepped (hostDoes (fgRuns zeros [.endProg]) (.write 4 0x00 0x8))).env.host = [.write 4 0x00 0x8] := by
  decide
/-- The step that a table word placed next runs (log 11). -/
theorem test_withFetchWord : (stepped (zeros.withFetchWord 32 0xB)).trace = [.hostOp (.host 0xB) .ok]
    ∧ (stepped (zeros.withFetchWord 4 0x4)).trace = [.resetPulse] := by decide
/-- 00 R6: an ill-formed instance has no step, and the window's base is where an access stands (20 R47). -/
theorem test_illFormed : isNext (step (onTurn { zeros with cfg := { rc with width := 0 } } .fg)) = false
    ∧ (Access.read 4 0x10).busAddress rc = 0x40000010 := by decide
/-- V-CON1's program: the steps that its trace comes from, in order; and the last mode with `INIT_PARTIAL` (41 R98). -/
theorem test_construct :
    rc.pConstruct = [.rstp, .waitr, .cmd 0x12 true, .waitr, .cmd 0x11 false, .data 0x03 [] false, .cmd 0x3C false,
        .data 0x05 [] false, .cmd 0x44 false, .data 0x00 [0x01] false, .cmd 0x45 false,
        .data 0x00 [0x00, 0x01, 0x00] false, .cmd 0x4E false, .data 0x00 [] false, .cmd 0x4F false,
        .data 0x00 [0x00] false, .waitr, .assign [.mode .fullMode, .monFullCfgValid true],
        .cmd 0x24 false, .row .blank 0, .row .blank 1, .cmd 0x26 false, .row .blank 0, .row .blank 1, .havocFb,
        .cmd 0x22 false, .data 0xF7 [] false, .cmd 0x20 true, .waitr, .assign [.mode .fullMode], .endProg]
      ∧ (Cfg.pConstruct { rc with initPartial := true }).drop 29 = [.assign [.mode .partialMode], .endProg] := by decide
/-- V-CON1, the state after the reset step: `STATUS` reads 2 or 0, `GEOM` and `CONFIG` as given. -/
theorem test_blockReset : (stepped (onTurn zeros .blockReset)).statusWord false = 0x2
    ∧ (stepped (onTurn zeros .blockReset)).statusWord true = 0x0
    ∧ (stepped (onTurn zeros .blockReset)).fgOp = some .rstp := by decide

/-! ### Witnesses: a concrete state and operands that meet the hypotheses of each statement, clause by clause -/

theorem witness_EncodedInstructionsDecode : rc.wf = true ∧ Instr.wellFormed rc (.uopRow .fb 1) = true
    ∧ ((∃ k, (encode (.uopRow .fb 1)).1 = .wireFrame k) → [0xFF#8] = [])
    ∧ Instr.wellFormed rc (.wireDataFrame 0 [1]) = true := by
  refine ⟨by decide, by decide, ?_, by decide⟩
  rintro ⟨k, h⟩
  cases h

theorem witness_StepRunsAcceptedCommand :
    let s := hostDoes zeros (.write 4 0x00 0x9)
    s.defined = true ∧ s.nextTurn = .host ∧ s.env.host = .write 4 0x00#32 0x9 :: []
      ∧ s.fg.active = false ∧ s.bg.inSegment = false := by decide

/-- BG in a segment; FG not active; FG at a `WAITR`. -/
theorem witness_StepRunsCurrentMicroOp :
    (let s := fgRuns zeros [.rstp, .endProg];
      s.defined = true ∧ s.nextTurn = .fg ∧ s.fg.active = true ∧ s.bg.inSegment = false
        ∧ s.fg.prog[s.fg.pc]? = some .rstp)
      ∧ (let s := bgAt 1 true false false .refreshingFull;
        s.defined = true ∧ s.nextTurn = .bg ∧ s.bg.active = true ∧ s.bg.inSegment = true
          ∧ s.fg.active = false ∧ s.bg.prog[s.bg.pc]? = some (.row .fb 0))
      ∧ (let s := { bgAt 0 false false false .refreshingFull with fg := (fgRuns zeros [.waitr, .endProg]).fg };
        s.nextTurn = .bg ∧ s.bg.active = true ∧ s.bg.inSegment = false ∧ s.fg.prog[s.fg.pc]? = some .waitr
          ∧ s.bg.prog[s.bg.pc]? = some (.cmd 0x24 false)) := by decide

theorem witness_DisabledAgentsDoNothing :
    (onTurn zeros .fg).defined = true
      ∧ ((onTurn zeros .fg).nextTurn = .fg ∧ (onTurn zeros .fg).fg.active = false)
      ∧ ((onTurn zeros .bg).nextTurn = .bg ∧ (onTurn zeros .bg).bg.active = false)
      ∧ (let s := { bgAt 0 false false false .refreshingFull with fg := (fgRuns zeros [.rstp, .endProg]).fg };
        s.nextTurn = .bg ∧ s.bg.inSegment = false ∧ s.fg.active = true ∧ s.fg.prog[s.fg.pc]? ≠ some .waitr)
      ∧ ((onTurn zeros .host).nextTurn = .host ∧ (onTurn zeros .host).env.host = [])
      ∧ (let s := hostDoes (fgRuns zeros [.rstp, .endProg]) (.write 4 0x00 0x8);
        s.nextTurn = .host ∧ s.fg.active = true ∧ s.env.host = .write 4 0x00#32 0x8 :: [])
      ∧ (let s := hostDoes (bgAt 1 true false false .refreshingFull) (.write 4 0x00 0x4);
        s.nextTurn = .host ∧ s.bg.inSegment = true ∧ s.env.host = .write 4 0x00#32 0x4 :: []) := by decide

theorem witness_MisalignedAccessRefused :
    .read 2 0x10 ∈ (hostDoes zeros (.read 2 0x10)).env.host ∧ (2 ≠ 4 ∨ (0x10#32).toNat % 4 ≠ 0)
      ∧ .write 4 0x02 0 ∈ (hostDoes zeros (.write 4 0x02 0)).env.host ∧ (4 ≠ 4 ∨ (0x02#32).toNat % 4 ≠ 0) := by decide

/-- Every mapped offset but `STATUS`, and the unmapped one just past the window. -/
theorem witness_HostReadsRegisters :
    ∀ off ∈ [0x00#32, 0x04#32, 0x08#32, 0x0C#32, 0x14#32, 0x18#32, 0x1C#32, 0x20#32, 0x24#32],
      (hostDoes zeros (.read 4 off)).defined = true ∧ (hostDoes zeros (.read 4 off)).nextTurn = .host
        ∧ (hostDoes zeros (.read 4 off)).env.host = .read 4 off :: [] ∧ off ≠ 0x10#32 := by
  intro off h
  simp only [List.mem_cons, List.not_mem_nil, or_false] at h
  rcases h with rfl | rfl | rfl | rfl | rfl | rfl | rfl | rfl | rfl <;> exact ⟨by decide, by decide, rfl, by decide⟩

theorem witness_HostReadsStatus :
    let s := hostDoes zeros (.read 4 0x10)
    let a := { s with mon := { s.mon with asleep := true } }
    s.defined = true ∧ s.nextTurn = .host ∧ s.env.host = .read 4 0x10#32 :: [] ∧ s.mon.asleep = false
      ∧ a.defined = true ∧ a.nextTurn = .host ∧ a.mon.asleep = true := by decide

/-- A poll of `ACCEPT` that ends, and one of `UPDATED` that goes round. -/
theorem witness_HostReadsStatus_poll :
    let p := hostDoes zeros (.poll 7 true)
    let q := hostDoes zeros (.poll 5 true)
    (p.defined = true ∧ p.nextTurn = .host ∧ p.env.host = .poll 7 true :: [] ∧ (stepped p).env.host = [])
      ∧ (q.defined = true ∧ q.nextTurn = .host ∧ q.env.host = .poll 5 true :: []
        ∧ (stepped q).env.host = [.poll 5 true]) := by decide

/-- A well-formed configuration, and a step. -/
theorem witness_GeomAndConfigFields : rc.wf = true
    ∧ step (onTurn zeros .blockReset) = .next (stepped (onTurn zeros .blockReset)) := ⟨by decide, next_of (by decide)⟩

/-- The three `ARG` registers, a read-only register, and an unmapped offset. -/
theorem witness_HostWritesRegisters :
    ∀ off ∈ [0x04#32, 0x08#32, 0x0C#32, 0x10#32, 0x20#32, 0x24#32],
      (hostDoes zeros (.write 4 off 7)).defined = true ∧ (hostDoes zeros (.write 4 off 7)).nextTurn = .host
        ∧ (hostDoes zeros (.write 4 off 7)).env.host = .write 4 off 7 :: [] ∧ off ≠ 0x00#32 := by
  intro off h
  simp only [List.mem_cons, List.not_mem_nil, or_false] at h
  rcases h with rfl | rfl | rfl | rfl | rfl | rfl <;> exact ⟨by decide, by decide, rfl, by decide⟩

theorem witness_PanelMoves :
    let pending : State := { zeros with panel := { pbusy := false, ppend := true } }
    let busy : State := { zeros with panel := { pbusy := true, ppend := false } }
    (onTurn pending .panelRise).defined = true
      ∧ (onTurn pending .panelRise).nextTurn = .panelRise ∧ (onTurn pending .panelRise).panel.ppend = true
      ∧ (onTurn zeros .panelRise).nextTurn = .panelRise ∧ (onTurn zeros .panelRise).panel.ppend = false
      ∧ (onTurn busy .panelFall).nextTurn = .panelFall ∧ (onTurn busy .panelFall).panel.pbusy = true
      ∧ (onTurn busy .panelFall).panel.ppend = false
      ∧ (onTurn zeros .panelFall).nextTurn = .panelFall ∧ (onTurn zeros .panelFall).panel.pbusy = false
      ∧ (onTurn pending .panelFall).nextTurn = .panelFall ∧ (onTurn pending .panelFall).panel.ppend = true
      ∧ (onTurn zeros .panelNone).nextTurn = .panelNone := by decide

theorem witness_BlockResetStep : (onTurn zeros .blockReset).defined = true
    ∧ (onTurn zeros .blockReset).nextTurn = .blockReset := by decide

theorem witness_IdleOnlyOperationsFaultWhileBusy : (withFsm zeros .refreshingPartial).refresh.fsm ≠ .idle
    ∧ (Instr.sleep, 0x6#4) ∈ [(Instr.initFull, 0x1#4), (.selectFull, 0x2#4), (.selectPartial, 0x3#4), (.clear, 0x5#4),
      (.sleep, 0x6#4)] := by decide

theorem witness_InitFullStartsItsProgram : zeros.refresh.fsm = .idle := by decide

theorem witness_ModeSelection :
    let unsupported : State := { zeros with cfg := { rc with partialSupported := false } }
    zeros.refresh.fsm = .idle ∧ zeros.cfg.partialSupported = true
      ∧ unsupported.refresh.fsm = .idle ∧ unsupported.cfg.partialSupported = false := by decide

theorem witness_ShowWhileBusyIsRejected : (bgAt 0 false false false .refreshingFull).refresh.fsm ≠ .idle := by decide

theorem witness_ShowStartsRefresh :
    let async := boot rcAsync []
    let part : State := { zeros with refresh := { zeros.refresh with mode := .partialMode } }
    zeros.refresh.fsm = .idle ∧ zeros.refresh.mode = .fullMode ∧ zeros.cfg.asyncRuntime = false
      ∧ async.refresh.fsm = .idle ∧ async.refresh.mode = .fullMode ∧ async.cfg.asyncRuntime = true
      ∧ part.refresh.fsm = .idle ∧ part.refresh.mode = .partialMode := by decide

theorem witness_BlockingOperationsStartTheirPrograms : zeros.refresh.fsm = .idle := by decide

/-- The last pixel, another pixel of its byte, and its row's padding bits at both ends. -/
theorem witness_SetPixel :
    let s := withArgs zeros 9 1 1
    s.regs.arg0.toNat < s.cfg.width ∧ s.regs.arg1.toNat < s.cfg.height
      ∧ 8 < s.cfg.width ∧ 1 < s.cfg.height ∧ (8, 1) ≠ (s.regs.arg0.toNat, s.regs.arg1.toNat)
      ∧ 0 < s.cfg.pad ∧ 5 < s.cfg.pad
      ∧ 2 ≠ s.regs.arg1.toNat * s.cfg.stride + s.regs.arg0.toNat / 8 := by decide

theorem witness_GetPixelAndReadByte :
    let s := withArgs zeros 3 1 0
    s.regs.arg0.toNat < s.cfg.width ∧ s.regs.arg1.toNat < s.cfg.height
      ∧ s.regs.arg0.toNat < s.cfg.height * s.cfg.stride := by decide

/-- The last byte of the buffer and the first address past it. -/
theorem witness_FillWritesEveryByte :
    zeros.fbInv = true ∧ 3 < zeros.cfg.height * zeros.cfg.stride ∧ zeros.cfg.height * zeros.cfg.stride ≤ 4 := by decide

theorem witness_WriteByte :
    let s := withArgs zeros 3 0 0xFF
    s.regs.arg0.toNat < s.cfg.height * s.cfg.stride ∧ 2 ≠ s.regs.arg0.toNat := by decide

/-- `x = WIDTH`, `y = HEIGHT`, `i = FB_SIZE`. -/
theorem witness_OutOfRangeOperationsFault :
    ((Instr.setPixel, 0x9#4) ∈ [(Instr.setPixel, 0x9#4), (.getPixel, 0xA#4)]
        ∧ zeros.cfg.width ≤ (withArgs zeros 10 0 0).regs.arg0.toNat)
      ∧ ((Instr.getPixel, 0xA#4) ∈ [(Instr.setPixel, 0x9#4), (.getPixel, 0xA#4)]
        ∧ zeros.cfg.height ≤ (withArgs zeros 0 2 0).regs.arg1.toNat)
      ∧ ((Instr.readByte, 0xC#4) ∈ [(Instr.readByte, 0xC#4), (.writeByte, 0xD#4)]
        ∧ zeros.cfg.height * zeros.cfg.stride ≤ (withArgs zeros 4 0 0).regs.arg0.toNat)
      ∧ (Instr.writeByte, 0xD#4) ∈ [(Instr.readByte, 0xC#4), (.writeByte, 0xD#4)] := by decide

/-- The reserved `OP`s, and the smallest word with a reserved bit set. -/
theorem witness_ReservedCommandsFault :
    ∀ w ∈ [0x0#32, 0xE#32, 0xF#32, 0x10#32, 0x80000001#32],
      w.toNat / 16 ≠ 0 ∨ w.toNat % 16 = 0 ∨ w.toNat % 16 = 14 ∨ w.toNat % 16 = 15 := by
  intro w h
  simp only [List.mem_cons, List.not_mem_nil, or_false] at h
  rcases h with rfl | rfl | rfl | rfl | rfl <;> decide

theorem witness_ReservedCommandsFault_step :
    let s := hostDoes zeros (.write 4 0x00 0xE)
    s.defined = true ∧ s.nextTurn = .host ∧ s.env.host = .write 4 0x00#32 0xE#32 :: []
      ∧ s.fg.active = false ∧ s.bg.inSegment = false := by decide

theorem witness_CommandAndDataMicroOpsSend : zeros.answer = true ∧ (bgAt 0 false false false .refreshingFull).answer = true := by
  decide

theorem witness_RowMicroOpsSend : zeros.answer = true ∧ 1 < zeros.cfg.height := by decide

/-- The first row that does not exist; the first pc past a program in FG, in BG inside a segment, and in BG at
a yield point with FG idle and with FG at a `WAITR`; and an ill-formed configuration. -/
theorem witness_StopsNameTheirReason :
    (1 ≤ zeros.cfg.height ∧ zeros.cfg.height ≤ 2)
      ∧ (let s := fgRuns zeros [];
        s.defined = true ∧ s.nextTurn = .fg ∧ s.fg.active = true ∧ s.bg.inSegment = false
          ∧ s.fg.prog.length ≤ s.fg.pc)
      ∧ (let s := bgAt 17 true false false .refreshingFull;
        s.defined = true ∧ s.nextTurn = .bg ∧ s.bg.active = true ∧ s.bg.inSegment = true
          ∧ s.bg.prog.length ≤ s.bg.pc)
      ∧ (let s := bgAt 17 false false false .refreshingFull;
        s.defined = true ∧ s.nextTurn = .bg ∧ s.bg.active = true ∧ s.fg.active = false
          ∧ s.bg.prog.length ≤ s.bg.pc)
      ∧ (let s := { bgAt 17 false false false .refreshingFull with fg := (fgRuns zeros [.waitr, .endProg]).fg };
        s.defined = true ∧ s.nextTurn = .bg ∧ s.bg.active = true ∧ s.fg.prog[s.fg.pc]? = some .waitr
          ∧ s.bg.prog.length ≤ s.bg.pc)
      ∧ Cfg.wf { rc with width := 0 } = false := by decide

theorem witness_FailedFramesAbort : (withAnswers zeros [false]).answer = false ∧ 1 < (withAnswers zeros [false]).cfg.height
    ∧ (withAnswers zeros [false]).ctx = .fg
    ∧ (withAnswers (bgAt 0 false false false .refreshingFull) [false]).answer = false
    ∧ (withAnswers (bgAt 0 false false false .refreshingFull) [false]).ctx = .bg := by decide

theorem witness_BlockingWait : zeros.mon.asleep = false
    ∧ (let s := { zeros with mon := { zeros.mon with asleep := true } }; s.mon.asleep = true) := by decide

/-- Both answers of a sample, for `WAITRY`. -/
theorem witness_CooperativeWaitAndYield : zeros.mon.asleep = false ∧ zeros.sampleValue = false
    ∧ (let s := { zeros with mon := { zeros.mon with asleep := true } }; s.mon.asleep = true ∧ s.sampleValue = true) := by
  decide

theorem witness_SetWritesListedFields : assignsDistinct [.fsm .idle, .complete true] = true
    ∧ assignsDistinct [.monAsleep true, .monFullCfgValid false] = true
    ∧ assignsDistinct [.mode .partialMode] = true ∧ assignsDistinct [.updated true] = true ∧ assignsDistinct [] = true := by
  decide

theorem witness_EndOfProgram : (fgRuns zeros [.endProg]).ctx = .fg ∧ (bgAt 16 true true true .idle).ctx = .bg := by decide

theorem witness_WireFramesEmit : zeros.answer = true ∧ (withAnswers zeros [false]).answer = false := by decide

theorem witness_WireGroupsExpand :
    (Instr.wireDem, zeros.cfg.group .dem) ∈ [(Instr.wireSwreset, zeros.cfg.group .swreset), (.wireDem, zeros.cfg.group .dem)]
      ∧ zeros.ctx = .fg ∧ (bgAt 0 false false false .refreshingFull).ctx = .bg := by decide

/-- A group of one pair, a group of two, and the group without pairs. -/
theorem witness_GroupExpansion : (rc.group .swreset).length = 1 ∧ (rc.group .actFull).length = 3
    ∧ (rc.group .force).length = 0 ∧ rc.wf = true := by decide

theorem witness_BorderFramesDiffer : rc.wf = true := by decide

theorem witness_RowPassSendsEveryRow :
    let s := fgRuns zeros (rc.rows 0x24 .fb .fg ++ [.endProg])
    let u := { s with env := { s.env with turns := [.fg, .fg, .fg], answers := [true, true, true] } }
    u.defined = true ∧ u.fg.active = true ∧ u.bg.inSegment = false
      ∧ u.fg.prog.drop u.fg.pc = u.cfg.rows 0x24 .fb .fg ++ [.endProg]
      ∧ u.env.turns = List.replicate (u.cfg.height + 1) .fg ++ []
      ∧ u.env.answers = List.replicate (u.cfg.height + 1) true ++ [] := by decide

/-- The loop in BG, where the last row ends the segment, and where it does not. -/
theorem witness_RowPassSendsEveryRow_bg :
    let at' (c : Cfg) (turns : Nat) : State := { bgAt 0 false false false .refreshingFull with
      cfg := c
      bg := { active := true, prog := c.rows 0x24 .fb .bg ++ [.endProg], pc := 0, inSegment := false, err := false }
      env := { zeros.env with turns := List.replicate turns .bg, answers := List.replicate (c.height + 1) true } }
    let s := at' rcAsync 5
    let u := at' { rcAsync with height := 3, yieldBatch := 2 } 5
    (s.defined = true ∧ s.bg.active = true ∧ s.fg.active = false
        ∧ s.bg.prog.drop s.bg.pc = s.cfg.rows 0x24 .fb .bg ++ [.endProg]
        ∧ s.env.turns = List.replicate (1 + s.cfg.height + s.cfg.height / s.cfg.yieldBatch) .bg ++ []
        ∧ s.env.answers = List.replicate (s.cfg.height + 1) true ++ [] ∧ s.cfg.height % s.cfg.yieldBatch = 0)
      ∧ (u.defined = true ∧ u.bg.active = true ∧ u.fg.active = false
        ∧ u.bg.prog.drop u.bg.pc = u.cfg.rows 0x24 .fb .bg ++ [.endProg]
        ∧ u.env.turns = List.replicate (1 + u.cfg.height + u.cfg.height / u.cfg.yieldBatch) .bg ++ []
        ∧ u.env.answers = List.replicate (u.cfg.height + 1) true ++ [] ∧ u.cfg.height % u.cfg.yieldBatch ≠ 0) := by
  decide

theorem witness_FrameWaveformIsReceived : rc.dcCmd ≠ rc.dcData ∧ zeros.pins.cs = !rc.csActive
    ∧ zeros.pins.sclk = rc.sclkIdle := by decide

/-- The corner pixels, and two pixels of one byte. -/
theorem witness_IndexArithmeticIsExact : rc.wf = true ∧ 9 < rc.width ∧ 1 < rc.height
    ∧ rc.pixelAddr 8 1 = rc.pixelAddr 9 1 ∧ pixelBit 8 ≠ pixelBit 9 := by decide

/-- A step that changes the mode, and one whose `SET` does. -/
theorem witness_OnlyModeSelectionWritesMode :
    let s := hostDoes zeros (.write 4 0x00 0x3)
    let u := fgRuns zeros [.assign [.mode .partialMode], .endProg]
    (step s = .next (stepped s) ∧ (stepped s).refresh.mode ≠ s.refresh.mode)
      ∧ (step u = .next (stepped u) ∧ (stepped u).refresh.mode ≠ u.refresh.mode)
      ∧ .assign [.fsm .idle] ∈ rc.pFullBlk :=
  ⟨⟨next_of (by decide), by decide⟩, ⟨next_of (by decide), by decide⟩, by decide⟩

/-- `INIT_FULL`'s last `SET` in partial mode. -/
theorem witness_OnlyModeSelectionWritesMode_program :
    let s : State := { zeros with
      refresh := { zeros.refresh with mode := .partialMode }
      fg := { active := true, op := .host 0x1, prog := rc.pInit false, pc := 17 }
      env := { zeros.env with turns := [.fg] } }
    s.ownPrograms = true ∧ step s = .next (stepped s) ∧ (stepped s).refresh.mode ≠ s.refresh.mode :=
  ⟨by decide, next_of (by decide), by decide⟩

/-- A step that changes a byte, and one that changes `RESULT`. -/
theorem witness_OnlyWritersOfBufferAndResult :
    let s := hostDoes (withArgs zeros 0 0 1) (.write 4 0x00 0x9)
    let u := hostDoes (withArgs (boot rc (fb4 0x80 0 0 0)) 0 0 0) (.write 4 0x00 0xA)
    (step s = .next (stepped s) ∧ s.nextTurn ≠ .blockReset ∧ (stepped s).memRead 0 ≠ s.memRead 0)
      ∧ (step u = .next (stepped u) ∧ u.nextTurn ≠ .blockReset ∧ (stepped u).regs.result ≠ u.regs.result) :=
  ⟨⟨next_of (by decide), by decide, by decide⟩, ⟨next_of (by decide), by decide, by decide⟩⟩

theorem witness_FaultsAreStickyAndTraceGrows :
    let s := fgRuns (withAnswers zeros [false]) [.cmd 0x20 true, .endProg]
    step s = .next (stepped s) ∧ s.nextTurn ≠ .blockReset ∧ (stepped s).regs.fault = 0x8 :=
  ⟨next_of (by decide), by decide, by decide⟩

theorem witness_LutAndDurationsAreNotRead :
    let s := fgRuns zeros [.rstp, .endProg]
    step s = .next (stepped s) := next_of (by decide)

/-- A full `SHOW` without a valid initialisation: the monitor changes. -/
theorem witness_MonitorIsNotRead :
    let s := hostDoes { zeros with mon := { zeros.mon with fullCfgValid := false } } (.write 4 0x00 0x4)
    step s = .next (stepped s) ∧ (stepped s).mon.fault = 0b010 := ⟨next_of (by decide), by decide⟩

theorem witness_DataInvariantKept :
    let s := fgRuns zeros [.data 1 [2] false, .endProg]
    s.dataInv = true ∧ step s = .next (stepped s) := ⟨by decide, next_of (by decide)⟩

theorem witness_ProgramInvariantKept :
    let s := fgRuns zeros [.row .fb 1, .endProg]
    s.contextInv = true ∧ step s = .next (stepped s) := ⟨by decide, next_of (by decide)⟩

/-- An accepted asynchronous `SHOW`, and BG's first frame. -/
theorem witness_ProgramInvariantKept_own :
    let s := hostDoes (boot rcAsync []) (.write 4 0x00 0x4)
    let u := { bgAt 0 false false false .refreshingFull with trace := [.hostOp (.host 0x4) .ok] }
    (s.ownPrograms = true ∧ step s = .next (stepped s) ∧ (stepped s).bg.active = true)
      ∧ (u.ownPrograms = true ∧ step u = .next (stepped u) ∧ (stepped u).bg.pc = 1) :=
  ⟨⟨by decide, next_of (by decide), by decide⟩, ⟨by decide, next_of (by decide), by decide⟩⟩

theorem witness_ProgramInvariantKept_sent :
    let u := { bgAt 0 false false false .refreshingFull with trace := [.hostOp (.host 0x4) .ok] }
    u.bgFramesSent ∧ u.bg.active = true ∧ step u = .next (stepped u) :=
  ⟨fun _ => ⟨[], [], by decide, by decide⟩, by decide, next_of (by decide)⟩

/-! States that meet the laws of the refresh state machine: at rest, sending, settling, and showing. -/

theorem sending_refreshInv : (bgAt 13 true false false .refreshingFull).RefreshInv where
  noSegment := by decide
  bgPhase := fun _ => ⟨by decide, .inl ⟨by decide, by decide, by decide, [], by decide, by decide⟩⟩
  fgKind := fun h => absurd h (by decide)
  completeUpdated := by decide
  blockingNoEvents := by decide
  fullNotComplete := by decide
  updatedPending := by decide
  busyOrStuck := fun _ => .inl (by decide)

theorem settling_refreshInv : (bgAt 15 true true false .refreshingFull).RefreshInv where
  noSegment := by decide
  bgPhase := fun _ => ⟨by decide, .inr (.inl ⟨by decide, by decide, by decide, .inr (by decide)⟩)⟩
  fgKind := fun h => absurd h (by decide)
  completeUpdated := by decide
  blockingNoEvents := by decide
  fullNotComplete := by decide
  updatedPending := by decide
  busyOrStuck := fun _ => .inl (by decide)

/-- BG at a yield point: a host command may be accepted. -/
theorem yielded_refreshInv : (bgAt 3 false false false .refreshingFull).RefreshInv where
  noSegment := by decide
  bgPhase := fun _ => ⟨by decide, .inl ⟨by decide, by decide, by decide,
    [.row .fb 1, .yieldPoint, .cmd 0x26 false, .row .fb 0, .yieldPoint, .row .fb 1, .yieldPoint, .cmd 0x22 false,
      .data 0xF7 [] false, .cmd 0x20 true], by decide, by decide⟩⟩
  fgKind := fun h => absurd h (by decide)
  completeUpdated := by decide
  blockingNoEvents := by decide
  fullNotComplete := by decide
  updatedPending := by decide
  busyOrStuck := fun _ => .inl (by decide)

theorem showing_refreshInv : (withFsm (fgRuns zeros blockingTail) .refreshingFull).RefreshInv where
  noSegment := by decide
  bgPhase := fun h => absurd h (by decide)
  fgKind := fun _ => .inr ⟨⟨by decide, [], by decide, by decide⟩, by decide, by decide, by decide⟩
  completeUpdated := by decide
  blockingNoEvents := by decide
  fullNotComplete := by decide
  updatedPending := by decide
  busyOrStuck := fun _ => .inr (.inl ⟨by decide, [], by decide, by decide⟩)

theorem witness_RefreshInvariantKept :
    let s := bgAt 15 true true false .refreshingFull
    s.RefreshInv ∧ step s = .next (stepped s) := ⟨settling_refreshInv, next_of (by decide)⟩

/-- Construction's first step. -/
theorem witness_ConstructionStaysIdle :
    let s := { fgRuns zeros rc.pConstruct with fg := { active := true, op := .construct, prog := rc.pConstruct, pc := 0 } }
    s.constructInv = true ∧ s.fg.active = true ∧ s.fg.op = .construct ∧ step s = .next (stepped s) :=
  ⟨by decide, by decide, by decide, next_of (by decide)⟩

theorem witness_EveryStepCompletes :
    let s := fgRuns zeros [.row .fb 1, .endProg]
    s.contextInv = true ∧ s.cfg.wf = true ∧ s.hostProgramValid = true := by decide

/-- `FSM` leaves `Idle`, and returns to it from each of the two programs. -/
theorem witness_RefreshTransitions :
    let a := hostDoes (boot rcAsync []) (.write 4 0x00 0x4)
    let b := withFsm (fgRuns zeros blockingTail) .refreshingFull
    let c := bgAt 15 true true false .refreshingFull
    (step a = .next (stepped a) ∧ a.nextTurn ≠ .blockReset ∧ (stepped a).refresh.fsm ≠ a.refresh.fsm)
      ∧ (b.RefreshInv ∧ step b = .next (stepped b) ∧ b.nextTurn ≠ .blockReset ∧ (stepped b).refresh.fsm ≠ b.refresh.fsm)
      ∧ (c.RefreshInv ∧ step c = .next (stepped c) ∧ c.nextTurn ≠ .blockReset ∧ (stepped c).refresh.fsm ≠ c.refresh.fsm) :=
  ⟨⟨next_of (by decide), by decide, by decide⟩, ⟨showing_refreshInv, next_of (by decide), by decide, by decide⟩,
    ⟨settling_refreshInv, next_of (by decide), by decide, by decide⟩⟩

/-- The first of the three states above meets the laws. -/
theorem witness_RefreshTransitions_idle : (hostDoes (boot rcAsync []) (.write 4 0x00 0x4)).RefreshInv := by
  constructor <;> simp [hostDoes, boot]

/-- `UPDATED` raised, `COMPLETE` raised, and both cleared by the next `SHOW`. -/
theorem witness_EventLaws :
    let a := bgAt 13 true false false .refreshingFull
    let b := bgAt 15 true true false .refreshingFull
    let c : State := hostDoes { boot rcAsync [] with
      refresh := { (boot rcAsync []).refresh with updated := true, complete := true } } (.write 4 0x00 0x4)
    (a.RefreshInv ∧ step a = .next (stepped a) ∧ a.nextTurn ≠ .blockReset ∧ a.refresh.updated = false
        ∧ (stepped a).refresh.updated = true)
      ∧ (b.RefreshInv ∧ step b = .next (stepped b) ∧ b.nextTurn ≠ .blockReset ∧ b.refresh.complete = false
        ∧ (stepped b).refresh.complete = true)
      ∧ (step c = .next (stepped c) ∧ c.nextTurn ≠ .blockReset ∧ c.refresh.updated = true
        ∧ (stepped c).refresh.updated = false ∧ c.refresh.complete = true ∧ (stepped c).refresh.complete = false) :=
  ⟨⟨sending_refreshInv, next_of (by decide), by decide, by decide, by decide⟩,
    ⟨settling_refreshInv, next_of (by decide), by decide, by decide, by decide⟩,
    ⟨next_of (by decide), by decide, by decide, by decide, by decide, by decide⟩⟩

/-- The third of the three states above meets the laws. -/
theorem witness_EventLaws_done :
    (hostDoes { boot rcAsync [] with
      refresh := { (boot rcAsync []).refresh with updated := true, complete := true } } (.write 4 0x00 0x4)).RefreshInv := by
  constructor <;> simp [hostDoes, boot, rcAsync]

/-- BG at its `SET` of `UPDATED`, with the frames of 95 W3 before it in the trace (the rows do not count). -/
theorem witness_EventLaws_frames :
    let a := { bgAt 13 true false false .refreshingFull with
      trace := [.hostOp (.host 0x4) .ok, .frame .command [0x24], .frame .command [0x26], .frame .command [0x22],
        .frame .data [0xF7], .frame .command [0x20]] }
    a.ownPrograms = true ∧ a.bgFramesSent ∧ step a = .next (stepped a) ∧ a.nextTurn ≠ .blockReset
      ∧ a.refresh.updated = false ∧ (stepped a).refresh.updated = true :=
  ⟨by decide, fun _ => ⟨[], [.frame .command [0x24], .frame .command [0x26], .frame .command [0x22],
    .frame .data [0xF7], .frame .command [0x20]], by decide, by decide⟩, next_of (by decide), by decide, by decide,
    by decide⟩

/-- X10: a `SHOW` on a stuck refresh. -/
theorem witness_StuckBusyStays :
    let s := hostDoes (withFsm zeros .refreshingFull) (.write 4 0x00 0x4)
    s.stuckBusy = true ∧ step s = .next (stepped s) ∧ s.nextTurn ≠ .blockReset :=
  ⟨by decide, next_of (by decide), by decide⟩

/-- BG ends at its `END`, and by a transport fault of its own frame. -/
theorem witness_NoHostOperationChangesBackground :
    let a := bgAt 16 true true true .idle
    let b := withAnswers (bgAt 1 true false false .refreshingFull) [false]
    (step a = .next (stepped a) ∧ a.nextTurn ≠ .blockReset ∧ a.bg.active = true ∧ (stepped a).bg.active = false)
      ∧ (step b = .next (stepped b) ∧ b.nextTurn ≠ .blockReset ∧ b.bg.active = true ∧ (stepped b).bg.active = false) :=
  ⟨⟨next_of (by decide), by decide, by decide, by decide⟩, ⟨next_of (by decide), by decide, by decide, by decide⟩⟩

/-- With BG at a yield point: `RESET` is accepted, and its program's first step is FG's. -/
theorem witness_NoHostOperationChangesBackground_host :
    let a := hostDoes (bgAt 3 false false false .refreshingFull) (.write 4 0x00 0x7)
    a.RefreshInv ∧ a.bg.active = true ∧ a.nextTurn = .host ∧ step a = .next (stepped a) :=
  ⟨{ yielded_refreshInv with }, by decide, by decide, next_of (by decide)⟩

theorem witness_NoHostOperationChangesBackground_fg :
    let b := { bgAt 3 false false false .refreshingFull with
      fg := { active := true, op := .host 0x7, prog := pReset, pc := 0 }
      env := { zeros.env with turns := [.fg] } }
    b.RefreshInv ∧ b.bg.active = true ∧ b.nextTurn = .fg ∧ step b = .next (stepped b) :=
  ⟨{ yielded_refreshInv with
      noSegment := by decide
      fgKind := fun _ => .inl (by decide)
      busyOrStuck := fun _ => .inl (by decide) }, by decide, by decide, next_of (by decide)⟩

theorem witness_WaitEndsAfterThePanelFalls :
    let s := fgRuns { zeros with panel := { pbusy := true, ppend := false } } [.waitr, .endProg]
    let u := { s with env := { s.env with turns := [.panelFall, .fg] } }
    u.defined = true ∧ u.env.turns = .panelFall :: .fg :: [] ∧ u.mon.asleep = false
      ∧ u.panel = { pbusy := true, ppend := false } ∧ u.fg.active = true ∧ u.bg.inSegment = false
      ∧ u.fg.prog[u.fg.pc]? = some .waitr := by decide

end Sys2Proof.Tests
end

section
/-! The geometry of a configuration (00 R5, 20 R40, R46): a row's bytes and a pixel's byte lie inside the buffer,
and an address and a bit name one pixel. -/

namespace Sys2Proof

/-- WF1 of 00 R6. -/
theorem Cfg.wf_bounds {c : Cfg} (h : c.wf = true) :
    1 ≤ c.width ∧ c.width ≤ 65535 ∧ 1 ≤ c.height ∧ c.height ≤ 65535 := by
  simp only [Cfg.wf, Bool.and_eq_true, decide_eq_true_eq] at h
  obtain ⟨⟨⟨⟨⟨⟨⟨⟨hw, hw'⟩, hh⟩, hh'⟩, -⟩, -⟩, -⟩, -⟩, -⟩ := h
  exact ⟨hw, hw', hh, hh'⟩

theorem Cfg.stride_le {c : Cfg} (h : c.width ≤ 65535) : c.stride ≤ 8192 := by
  unfold Cfg.stride; omega

theorem Cfg.fbSize_le {c : Cfg} (hw : c.width ≤ 65535) (hh : c.height ≤ 65535) : c.fbSize ≤ 536862720 :=
  Nat.mul_le_mul hh (Cfg.stride_le hw)

theorem Cfg.pad_le (c : Cfg) : c.pad ≤ 7 := by
  unfold Cfg.pad Cfg.stride; omega

theorem Cfg.width_add_pad (c : Cfg) : c.width + c.pad = 8 * c.stride := by
  unfold Cfg.pad Cfg.stride; omega

theorem Cfg.row_end_le_fbSize {c : Cfg} {r : Nat} (h : r < c.height) : r * c.stride + c.stride ≤ c.fbSize := by
  rw [← Nat.succ_mul]
  exact Nat.mul_le_mul_right c.stride h

/-- The byte of column `x` stands inside its row. -/
theorem Cfg.column_byte_lt_stride {c : Cfg} {x : Nat} (h : x < c.width) : x / 8 < c.stride := by
  unfold Cfg.stride; omega

theorem Cfg.pixelAddr_lt_fbSize {c : Cfg} {x y : Nat} (hx : x < c.width) (hy : y < c.height) :
    c.pixelAddr x y < c.fbSize :=
  calc y * c.stride + x / 8 < y * c.stride + c.stride := Nat.add_lt_add_left (Cfg.column_byte_lt_stride hx) _
    _ ≤ c.fbSize := Cfg.row_end_le_fbSize hy

/-- The address of a pixel's byte gives back the row. -/
theorem Cfg.pixelAddr_div_stride {c : Cfg} {x : Nat} (hx : x < c.width) (y : Nat) : c.pixelAddr x y / c.stride = y := by
  have h := Cfg.column_byte_lt_stride hx
  rw [Cfg.pixelAddr, Nat.mul_comm, Nat.mul_add_div (by omega), Nat.div_eq_of_lt h, Nat.add_zero]

/-- The address of a pixel's byte gives back the byte's place in the row. -/
theorem Cfg.pixelAddr_mod_stride {c : Cfg} {x : Nat} (hx : x < c.width) (y : Nat) :
    c.pixelAddr x y % c.stride = x / 8 := by
  rw [Cfg.pixelAddr, Nat.mul_add_mod_self_right, Nat.mod_eq_of_lt (Cfg.column_byte_lt_stride hx)]

/-- Within a byte the bit tells the column. -/
theorem eq_of_div_eq_of_pixelBit_eq {x x' : Nat} (hd : x / 8 = x' / 8) (hb : pixelBit x = pixelBit x') : x = x' := by
  unfold pixelBit at hb; omega

theorem Cfg.pixel_injective {c : Cfg} {x y x' y' : Nat} (hx : x < c.width) (hx' : x' < c.width)
    (ha : c.pixelAddr x y = c.pixelAddr x' y') (hb : pixelBit x = pixelBit x') : x = x' ∧ y = y' := by
  constructor
  · refine eq_of_div_eq_of_pixelBit_eq ?_ hb
    rw [← Cfg.pixelAddr_mod_stride hx y, ha, Cfg.pixelAddr_mod_stride hx' y']
  · rw [← Cfg.pixelAddr_div_stride hx y, ha, Cfg.pixelAddr_div_stride hx' y']

/-- Settles O44: a row ends where the next begins, a pixel's byte stands inside its row, and the address divided by
the stride gives the row and the byte back. -/
theorem indexArithmeticIsExact : Obligations.IndexArithmeticIsExact := by
  intro c h
  obtain ⟨-, hw, -, hh⟩ := Cfg.wf_bounds h
  exact ⟨Cfg.stride_le hw, Cfg.fbSize_le hw hh, c.pad_le, c.width_add_pad, fun _ => Cfg.row_end_le_fbSize,
    fun _ _ => Cfg.pixelAddr_lt_fbSize, fun _ _ _ _ => Cfg.pixel_injective⟩

end Sys2Proof
end

section
/-! What no step undoes (00 R4, R12; 10 R19, R36; 60 R119): the configuration, the sticky faults, the trace. One
lemma per shared operation, then `exec`, the agents and the machine. -/

namespace Sys2Proof.Machine

/-- A fault word after an operation: as it was, or with one more of its four bits set (10 R19, 60 R126). -/
def FaultKept (f g : Word) : Prop := g = f ∨ ∃ b, b < 4 ∧ g = f ||| (1#32 <<< b)

/-- No bit of `MON_FAULT` is cleared (10 R36). -/
def MonFaultKept (m n : Monitor) : Prop := m.fault &&& n.fault = m.fault

/-- The trace is longer by at most two events (00 R12). -/
def TraceGrows (tr tr' : List Event) : Prop := ∃ es, tr' = tr ++ es ∧ es.length ≤ 2

/-- What every step but block reset keeps. -/
structure StickyStep (s t : State) : Prop where
  cfg : t.cfg = s.cfg
  fault : FaultKept s.regs.fault t.regs.fault
  mon : MonFaultKept s.mon t.mon
  trace : TraceGrows s.trace t.trace

/-! ### The three relations -/

theorem FaultKept.same {f g : Word} (h : g = f) : FaultKept f g := .inl h

theorem FaultKept.raised (f : Word) {b : Nat} (h : b < 4) : FaultKept f (f ||| (1#32 <<< b)) := .inr ⟨b, h, rfl⟩

theorem MonFaultKept.same {m n : Monitor} (h : n.fault = m.fault) : MonFaultKept m n := by
  rw [MonFaultKept, h, BitVec.and_self]

/-- Recording a condition sets a bit or leaves the monitor as it is (60 R123). -/
theorem MonFaultKept.record {m n : Monitor} (h : MonFaultKept m n) (bit : Nat) (w : Bool) :
    MonFaultKept m (n.record bit w) := by
  unfold MonFaultKept at h ⊢
  rw [Monitor.record_fault]
  split
  · rw [BitVec.and_or_distrib_left, h]
    ext i hi
    simp +contextual
  · exact h

theorem TraceGrows.same {tr tr' : List Event} (h : tr' = tr) : TraceGrows tr tr' := ⟨[], by simp [h]⟩

theorem TraceGrows.one {tr tr' : List Event} {e : Event} (h : tr' = tr ++ [e]) : TraceGrows tr tr' :=
  ⟨[e], h, by simp⟩

theorem TraceGrows.two {tr tr' : List Event} {e e' : Event} (h : tr' = tr ++ [e, e']) : TraceGrows tr tr' :=
  ⟨[e, e'], h, by simp⟩

/-! ### States that agree on what sticks -/

/-- An operation that keeps the configuration, both fault words and the trace. -/
theorem StickyStep.of_same {s t : State} (cfg : t.cfg = s.cfg) (fault : t.regs.fault = s.regs.fault)
    (mon : t.mon.fault = s.mon.fault) (trace : t.trace = s.trace) : StickyStep s t :=
  ⟨cfg, .same fault, .same mon, .same trace⟩

/-- An operation that appends one event and keeps the configuration and both fault words. -/
theorem StickyStep.of_event {s t : State} {e : Event} (cfg : t.cfg = s.cfg) (fault : t.regs.fault = s.regs.fault)
    (mon : t.mon.fault = s.mon.fault) (trace : t.trace = s.trace ++ [e]) : StickyStep s t :=
  ⟨cfg, .same fault, .same mon, .one trace⟩

theorem StickyStep.refl (s : State) : StickyStep s s := .of_same rfl rfl rfl rfl

/-- A sticky step seen from a state that agrees with its first one on what sticks. -/
theorem StickyStep.of_agree {r s t : State} (h : StickyStep s t) (cfg : s.cfg = r.cfg) (regs : s.regs = r.regs)
    (mon : s.mon = r.mon) (trace : s.trace = r.trace) : StickyStep r t := by
  obtain ⟨hc, hf, hm, ht⟩ := h
  exact ⟨hc.trans cfg, regs ▸ hf, mon ▸ hm, trace ▸ ht⟩

/-- A sticky step is one still after a move of its context. -/
theorem StickyStep.advance {s t : State} (h : StickyStep s t) : StickyStep s t.advance := by
  obtain ⟨hc, hf, hm, ht⟩ := h
  constructor <;> simpa

/-! ### Shared operations -/

theorem State.finish_sticky (s : State) (o : OpId) (c : ResultCode) : StickyStep s (s.finish o c) :=
  .of_event rfl rfl rfl (s.finish_trace o c)

theorem State.raiseFault_sticky (s : State) {b : Nat} (h : b < 4) : StickyStep s (s.raiseFault b) :=
  ⟨rfl, .raised _ h, .same rfl, .same rfl⟩

theorem State.finishFaulted_sticky (s : State) (o : OpId) {b : Nat} (h : b < 4) :
    StickyStep s (s.finishFaulted o b) :=
  ⟨rfl, .raised _ h, .same rfl, .one (s.finishFaulted_trace o b)⟩

theorem State.illegalCmd_sticky (s : State) (op : BitVec 4) : StickyStep s (s.illegalCmd op) :=
  s.finishFaulted_sticky _ (by decide)

theorem State.startFg_sticky (s : State) (op : BitVec 4) (prog : List MicroOp) : StickyStep s (s.startFg op prog) :=
  .of_same rfl rfl rfl rfl

theorem State.havocFb_sticky (s : State) : StickyStep s s.havocFb := .of_same rfl rfl rfl rfl

theorem State.afterSample_sticky (s : State) : StickyStep s s.afterSample :=
  .of_event s.afterSample_cfg (by simp) (by simp) s.afterSample_trace

theorem State.splice_sticky (s : State) (ops : List MicroOp) : StickyStep s (s.splice ops) :=
  .of_same (by simp) (by simp) (by simp) (by simp)

theorem State.pulse_sticky (s : State) : StickyStep s s.pulse :=
  .of_event s.pulse_cfg (by simp) (by simp) s.pulse_trace

theorem State.assignAll_sticky (s : State) (ps : List Assign) : StickyStep s (s.assignAll ps) := by
  obtain ⟨hcfg, hregs, -, -, -, -, -, -, htrace, -, -, -, hmon⟩ := s.assignAll_frame ps
  exact .of_same hcfg (by rw [hregs]) hmon htrace

theorem State.endContext_sticky (s : State) : StickyStep s s.endContext := by
  cases h : s.ctx
  case fg => rw [State.endContext_of_fg h]; exact .of_event rfl rfl rfl rfl
  case bg => rw [State.endContext_of_bg h]; exact .of_same rfl rfl rfl rfl

/-! ### Frames (40 R66 to R68) -/

theorem State.frameSent_sticky (s : State) (k : FrameKind) (bs : List Byte) (bi : Bool) :
    StickyStep s (s.frameSent k bs bi) where
  cfg := by simp
  fault := .same (by simp)
  mon := by rw [State.frameSent_mon]; exact ((MonFaultKept.same rfl).record _ _).record _ _
  trace := .one (s.frameSent_trace k bs bi)

/-- A failed frame's own event, and in FG the event of the aborted operation. -/
theorem State.frameFailed_traceGrows (s : State) (k : FrameKind) (bs : List Byte) :
    TraceGrows s.trace (s.frameFailed k bs).trace := by
  have spec := s.frameFailed_spec k bs
  cases h : s.ctx
  case fg => exact .two (spec.foreground h).1
  case bg => exact .one (spec.background h).1

theorem State.frameFailed_sticky (s : State) (k : FrameKind) (bs : List Byte) : StickyStep s (s.frameFailed k bs) where
  cfg := by simp
  fault := by rw [State.frameFailed_regs]; exact .raised _ (by decide)
  mon := by rw [State.frameFailed_mon]; exact ((MonFaultKept.same rfl).record _ _).record _ _
  trace := s.frameFailed_traceGrows k bs

theorem State.emit_sticky (s : State) (k : FrameKind) (bs : List Byte) (bi : Bool) : StickyStep s (s.emit k bs bi) := by
  unfold State.emit
  split
  · exact s.frameSent_sticky k bs bi
  · exact s.frameFailed_sticky k bs

theorem State.emitOp_sticky (s : State) (k : FrameKind) (bs : List Byte) (bi : Bool) :
    StickyStep s (s.emitOp k bs bi) := by
  rcases s.emitOp_cases k bs bi with ⟨-, e⟩ | ⟨-, e⟩ <;> rw [e]
  · exact (s.frameSent_sticky k bs bi).advance
  · exact s.frameFailed_sticky k bs

/-! ### Acceptance of a host operation -/

theorem State.requireIdle_sticky {s t : State} (op : BitVec 4) (h : StickyStep s t) :
    StickyStep s (s.requireIdle op t) := by
  unfold State.requireIdle
  split
  · exact s.finishFaulted_sticky _ (by decide)
  · exact h

/-- An operation of the frame buffer that keeps what sticks, under its range check. -/
theorem State.ifInRange_sticky {s t : State} (op : BitVec 4) (inRange : Bool) (cfg : t.cfg = s.cfg)
    (fault : t.regs.fault = s.regs.fault) (mon : t.mon = s.mon) (trace : t.trace = s.trace) :
    StickyStep s (s.ifInRange op inRange t) := by
  unfold State.ifInRange
  split
  · exact .of_event cfg fault (congrArg _ mon) (congrArg (· ++ _) trace)
  · exact s.finishFaulted_sticky _ (by decide)

theorem State.selectMode_sticky (s : State) (op : BitVec 4) (m : Mode) : StickyStep s (s.selectMode op m) :=
  .of_event rfl rfl rfl rfl

theorem State.showFullBlocking_sticky (s : State) : StickyStep s s.showFullBlocking :=
  ⟨rfl, .same rfl, (MonFaultKept.same rfl).record _ _, .same rfl⟩

theorem State.showFullAsync_sticky (s : State) : StickyStep s s.showFullAsync :=
  ⟨rfl, .same rfl, (MonFaultKept.same rfl).record _ _, .one rfl⟩

theorem State.showPartial_sticky (s : State) : StickyStep s s.showPartial := .of_same rfl rfl rfl rfl

/-! ### `exec` -/

/-- A meaning that, where it answers, has taken a sticky step. -/
def StickyResult (s : State) (r : Result) : Prop := ∀ t, r = .next t → StickyStep s t

theorem StickyStep.result {s t : State} (h : StickyStep s t) : StickyResult s (.next t) := by
  rintro u ⟨⟩
  exact h

theorem execSelectPartial_sticky (s : State) : StickyResult s (execSelectPartial s) := by
  refine (State.requireIdle_sticky _ ?_).result
  split
  · exact s.selectMode_sticky _ _
  · exact s.finish_sticky _ _

theorem execShow_sticky (s : State) : StickyResult s (execShow s) := by
  refine StickyStep.result ?_
  split
  · exact s.finish_sticky _ _
  · split
    · split
      · exact s.showFullAsync_sticky
      · exact s.showFullBlocking_sticky
    · exact s.showPartial_sticky

theorem execUopRow_sticky (src : RowSrc) (r : Nat) (s : State) : StickyResult s (execUopRow src r s) := by
  cases src with
  | fb =>
    simp only [execUopRow]
    split
    · exact (s.emitOp_sticky _ _ _).result
    · exact fun _ h => nomatch h
  | blank => exact (s.emitOp_sticky _ _ _).result

theorem execUopWaitr_sticky (s : State) : StickyResult s (execUopWaitr s) := by
  refine StickyStep.result ?_
  split
  · exact .of_event (by simp) (by simp) (by simp) (s.afterSample.stay_trace.trans s.afterSample_trace)
  · exact s.afterSample_sticky.advance

theorem execUopWaitry_sticky (s : State) : StickyResult s (execUopWaitry s) := by
  refine StickyStep.result ?_
  split
  · exact .of_event (by simp) (by simp) (by simp) s.afterSample_trace
  · exact s.afterSample_sticky.advance

theorem execUopYield_sticky (s : State) : StickyResult s (execUopYield s) := by
  refine StickyStep.result ?_
  split <;> exact .of_same (by simp) (by simp) (by simp) (by simp)

/-- Every meaning keeps what sticks, from every state. -/
theorem exec_sticky (i : Instr) (s : State) : StickyResult s (exec i s) := by
  cases i with
  | initFull | clear | sleep => exact (State.requireIdle_sticky _ (s.startFg_sticky _ _)).result
  | selectFull => exact (State.requireIdle_sticky _ (s.selectMode_sticky _ _)).result
  | selectPartial => exact execSelectPartial_sticky s
  | showRefresh => exact execShow_sticky s
  | reset | waitReady => exact (s.startFg_sticky _ _).result
  | setPixel | getPixel | readByte | writeByte => refine (State.ifInRange_sticky _ _ ?_ ?_ ?_ ?_).result <;> rfl
  | fill =>
    refine StickyStep.result ?_
    exact ((s.fillFb _).finish_sticky _ _).of_agree rfl rfl rfl rfl
  | reservedOp0 | reservedOpE | reservedOpF | reservedHighBits => exact (s.illegalCmd_sticky _).result
  | uopEnd => exact s.endContext_sticky.result
  | uopCmd | uopData => exact (s.emitOp_sticky _ _ _).result
  | uopRow src r => exact execUopRow_sticky src r s
  | uopRstp => exact s.pulse_sticky.advance.result
  | uopWaitr => exact execUopWaitr_sticky s
  | uopWaitry => exact execUopWaitry_sticky s
  | uopYield => exact execUopYield_sticky s
  | uopSet ps => exact (s.assignAll_sticky ps).advance.result
  | uopHavocFb => exact s.havocFb_sticky.advance.result
  | wireCommandFrame | wireDataFrame => exact (s.emit_sticky _ _ _).result
  | wireSwreset | wireDem | wireBorderFull | wireBorderPartial | wireDucPartial | wireWindow | wireCursor
  | wireActFull | wireActPartial | wireSleep | wireForce | wireWriteCur | wireWritePrev =>
    exact (s.splice_sticky _).result

/-! ### The agents -/

theorem State.hostRead_sticky (s : State) (off : Word) : StickyStep s (s.hostRead off) := by
  have h : StickyStep s (s.afterRead off) := by
    unfold State.afterRead
    split
    · exact s.afterSample_sticky
    · split
      · exact .refl s
      · exact s.raiseFault_sticky (by decide)
  exact ⟨h.cfg, h.fault, h.mon, h.trace⟩

theorem State.hostWrite_sticky (s : State) (off v : Word) : StickyStep s (s.hostWrite off v) := by
  unfold State.hostWrite
  split
  · exact .of_same rfl rfl rfl rfl
  · split
    · exact .of_same rfl rfl rfl rfl
    · split
      · exact .of_same rfl rfl rfl rfl
      · exact s.raiseFault_sticky (by decide)

theorem State.pollOnce_sticky (s : State) (bit : Nat) (want : Bool) : StickyStep s (s.pollOnce bit want) := by
  obtain ⟨hc, hf, hm, ht⟩ := s.hostRead_sticky offStatus
  unfold State.pollOnce
  split <;> exact ⟨hc, hf, hm, ht⟩

theorem StickyStep.of_popAccess {s t : State} (h : StickyStep s.popAccess t) : StickyStep s t :=
  h.of_agree rfl rfl rfl rfl

theorem StickyStep.of_inCtx {s t : State} {c : Ctx} (h : StickyStep (s.inCtx c) t) : StickyStep s t :=
  h.of_agree rfl rfl rfl rfl

theorem StickyStep.of_afterTurn {s t : State} (h : StickyStep s.afterTurn t) : StickyStep s t :=
  h.of_agree (by simp) (by simp) (by simp) (by simp)

theorem hostStep_sticky (s : State) : StickyResult s (hostStep s) := by
  intro t h
  rcases hostStep_next h with rfl | ⟨_, off, _, -, rfl⟩ | ⟨bit, want, _, -, rfl⟩ | ⟨_, off, v, _, -, -, rfl⟩
    | ⟨_, v, _, -, -, he⟩
  · exact .refl _
  · exact (s.popAccess.hostRead_sticky off).of_popAccess
  · exact s.pollOnce_sticky bit want
  · exact (s.popAccess.hostWrite_sticky off v).of_popAccess
  · exact (exec_sticky _ _ t he).of_popAccess

theorem fgStep_sticky (s : State) : StickyResult s (fgStep s) := by
  intro t h
  rcases fgStep_next h with ⟨-, rfl⟩ | ⟨-, op, -, he⟩
  · exact .refl _
  · exact (exec_sticky _ _ t he).of_inCtx

theorem bgStep_sticky (s : State) : StickyResult s (bgStep s) := by
  intro t h
  rcases bgStep_next h with ⟨-, rfl⟩ | ⟨-, op, -, he⟩
  · exact .refl _
  · exact (exec_sticky _ _ t he).of_inCtx

theorem State.panelMove_sticky (s : State) (m : Panel → Panel) : StickyStep s (s.panelMove m) :=
  .of_same rfl rfl rfl rfl

theorem stepAs_sticky {turn : Turn} (ht : turn ≠ .blockReset) (s : State) : StickyResult s (stepAs turn s) := by
  cases turn with
  | host => exact hostStep_sticky s
  | fg => exact fgStep_sticky s
  | bg => exact bgStep_sticky s
  | panelRise | panelFall => exact (s.panelMove_sticky _).result
  | panelNone => exact (StickyStep.refl s).result
  | blockReset => exact absurd rfl ht

/-! ### The machine -/

/-- A step other than block reset keeps what sticks. -/
theorem step_sticky {s t : State} (h : step s = .next t) (ht : s.nextTurn ≠ .blockReset) : StickyStep s t := by
  obtain ⟨-, -, hs⟩ := step_next h
  exact (stepAs_sticky ht _ t hs).of_afterTurn

/-- A step at the platform's turn is block reset (70 R138). -/
theorem step_blockReset {s t : State} (h : step s = .next t) (ht : s.nextTurn = .blockReset) :
    t = s.afterTurn.blockReset := by
  obtain ⟨-, -, hs⟩ := step_next h
  rw [ht] at hs
  cases hs
  rfl

@[simp] theorem State.blockReset_cfg (s : State) : s.blockReset.cfg = s.cfg := rfl

/-- No step changes the configuration (00 R4). -/
theorem step_cfg {s t : State} (h : step s = .next t) : t.cfg = s.cfg := by
  by_cases ht : s.nextTurn = .blockReset
  · rw [step_blockReset h ht, State.blockReset_cfg, State.afterTurn_cfg]
  · exact (step_sticky h ht).cfg

/-- Settles O47: every shared operation keeps what sticks, so `exec` does, so every agent's step does. -/
theorem faultsAreStickyAndTraceGrows : Obligations.FaultsAreStickyAndTraceGrows := by
  intro s t h
  refine ⟨step_cfg h, fun ht => ?_⟩
  obtain ⟨-, hfault, hmon, htrace⟩ := step_sticky h ht
  exact ⟨hfault, hmon, htrace⟩

end Sys2Proof.Machine
end

section
/-! What a step does to the refresh registers, the two contexts and BG's frames, said once for the whole machine
(20 R49, 40 R67 to R81, 41 R82): one relation per kind of step, then the inversion of `step` that the
invariants of 10 R23 to R30 are derived from. -/

namespace Sys2Proof.Machine

/-! ### `SET` on the refresh registers (40 R79) -/

/-- One pair of a `SET`, as far as the refresh registers go. -/
def Refresh.assign (r : Refresh) : Assign → Refresh
  | .fsm v => { r with fsm := v }
  | .mode v => { r with mode := v }
  | .updated v => { r with updated := v }
  | .complete v => { r with complete := v }
  | .monAsleep _ | .monFullCfgValid _ => r

/-- All pairs of a `SET`, as far as the refresh registers go. -/
def Refresh.assignAll (r : Refresh) (ps : List Assign) : Refresh := ps.foldl Refresh.assign r

theorem State.assign_refresh (s : State) (a : Assign) : (s.assign a).refresh = s.refresh.assign a := by
  cases a <;> rfl

theorem State.assignAll_refresh (ps : List Assign) : ∀ s : State, (s.assignAll ps).refresh = s.refresh.assignAll ps := by
  induction ps with
  | nil => exact fun _ => rfl
  | cons a ps ih =>
    intro s
    rw [State.assignAll_cons, ih, State.assign_refresh]
    rfl

/-- A `SET` of none of `FSM`, `UPDATED`, `COMPLETE` keeps the three. -/
theorem Refresh.assignAll_keepsRefresh {ps : List Assign} (h : ps.all Assign.keepsRefresh = true) : ∀ r : Refresh,
    (r.assignAll ps).fsm = r.fsm ∧ (r.assignAll ps).updated = r.updated ∧ (r.assignAll ps).complete = r.complete := by
  induction ps with
  | nil => exact fun _ => ⟨rfl, rfl, rfl⟩
  | cons a ps ih =>
    intro r
    rw [List.all_cons, Bool.and_eq_true] at h
    obtain ⟨ha, hps⟩ := h
    obtain ⟨hf, hu, hc⟩ := ih hps (r.assign a)
    cases a with
    | fsm | updated | complete => cases ha
    | mode | monAsleep | monFullCfgValid => exact ⟨hf, hu, hc⟩

/-- A `SET` that changes the mode lists it. -/
theorem Refresh.mode_mem_of_assignAll {ps : List Assign} : ∀ {r : Refresh}, (r.assignAll ps).mode ≠ r.mode →
    ∃ v, Assign.mode v ∈ ps := by
  induction ps with
  | nil => exact fun h => absurd rfl h
  | cons a ps ih =>
    intro r h
    cases a with
    | mode v => exact ⟨v, List.mem_cons_self⟩
    | fsm | updated | complete | monAsleep | monFullCfgValid =>
      obtain ⟨v, hv⟩ := ih (r := r.assign _) h
      exact ⟨v, List.mem_cons_of_mem _ hv⟩

/-! ### The part of the state that the contexts and the refresh registers make up -/

/-- Two states differ neither in the refresh registers, the contexts, the configuration nor the trace, as before and
after taking a turn, an access, or the choice of the context executing. -/
structure SameControl (s r : State) : Prop where
  cfg : r.cfg = s.cfg
  refresh : r.refresh = s.refresh
  fg : r.fg = s.fg
  bg : r.bg = s.bg
  trace : r.trace = s.trace

theorem State.afterTurn_sameControl (s : State) : SameControl s s.afterTurn :=
  ⟨by simp, by simp, by simp, by simp, by simp⟩

theorem State.popAccess_sameControl (s : State) : SameControl s s.popAccess := ⟨rfl, rfl, rfl, rfl, rfl⟩

theorem State.inCtx_sameControl (s : State) (c : Ctx) : SameControl s (s.inCtx c) := ⟨rfl, rfl, rfl, rfl, rfl⟩

theorem SameControl.trans {s r u : State} (h : SameControl s r) (h' : SameControl r u) : SameControl s u :=
  ⟨h'.cfg.trans h.cfg, h'.refresh.trans h.refresh, h'.fg.trans h.fg, h'.bg.trans h.bg, h'.trace.trans h.trace⟩

theorem QuietStep.of_refresh {s t : State} (cfg : t.cfg = s.cfg) (refresh : t.refresh = s.refresh) : QuietStep s t :=
  ⟨cfg, by rw [refresh], by rw [refresh], by rw [refresh], by rw [refresh]⟩

theorem QuietStep.of_sameControl {s r t : State} (e : SameControl s r) (h : QuietStep r t) : QuietStep s t := by
  obtain ⟨cfg, refresh, -, -, -⟩ := e
  obtain ⟨hcfg, hfsm, hmode, hupdated, hcomplete⟩ := h
  rw [cfg] at hcfg
  rw [refresh] at hfsm hmode hupdated hcomplete
  exact ⟨hcfg, hfsm, hmode, hupdated, hcomplete⟩

/-- The configuration and the three registers of the refresh state machine's laws are kept; the mode need not be. -/
structure KeepsRefresh (s t : State) : Prop where
  cfg : t.cfg = s.cfg
  fsm : t.refresh.fsm = s.refresh.fsm
  updated : t.refresh.updated = s.refresh.updated
  complete : t.refresh.complete = s.refresh.complete

theorem QuietStep.keepsRefresh {s t : State} (q : QuietStep s t) : KeepsRefresh s t :=
  ⟨q.cfg, q.fsm, q.updated, q.complete⟩

theorem KeepsRefresh.of_sameControl {s r t : State} (e : SameControl s r) (h : KeepsRefresh r t) : KeepsRefresh s t := by
  obtain ⟨hcfg, hfsm, hupdated, hcomplete⟩ := h
  rw [e.cfg] at hcfg
  rw [e.refresh] at hfsm hupdated hcomplete
  exact ⟨hcfg, hfsm, hupdated, hcomplete⟩

theorem KeepsRefresh.of_assignAll {s t : State} {ps : List Assign} (hps : ps.all Assign.keepsRefresh = true)
    (cfg : t.cfg = s.cfg) (refresh : t.refresh = s.refresh.assignAll ps) : KeepsRefresh s t := by
  obtain ⟨hfsm, hupdated, hcomplete⟩ := Refresh.assignAll_keepsRefresh hps s.refresh
  exact ⟨cfg, refresh ▸ hfsm, refresh ▸ hupdated, refresh ▸ hcomplete⟩

/-! ### FG's micro-op -/

/-- Everything FG's micro-op can do to the refresh registers and the contexts. BG is in no segment then
(20 R49), so none of them changes BG. -/
inductive FgEffect (s t : State) : MicroOp → Prop
  | advances {op} (hop : op.quiet = true) (q : QuietStep s t) (fg : t.fg = { s.fg with pc := s.fg.pc + 1 })
      (bg : t.bg = s.bg) : FgEffect s t op
  | stays {op} (q : QuietStep s t) (fg : t.fg = s.fg) (bg : t.bg = s.bg) : FgEffect s t op
  | aborts {op} (q : QuietStep s t) (fg : t.fg = { s.fg with active := false }) (bg : t.bg = s.bg)
      (fault : t.transportFaulted = true) : FgEffect s t op
  | sets (ps : List Assign) (cfg : t.cfg = s.cfg) (refresh : t.refresh = s.refresh.assignAll ps)
      (fg : t.fg = { s.fg with pc := s.fg.pc + 1 }) (bg : t.bg = s.bg) : FgEffect s t (.assign ps)
  | ends (q : QuietStep s t) (fg : t.fg = { s.fg with active := false }) (bg : t.bg = s.bg) : FgEffect s t .endProg

theorem FgEffect.of_sameControl {s r t : State} {op : MicroOp} (e : SameControl s r) (h : FgEffect r t op) :
    FgEffect s t op := by
  cases h with
  | advances hop q fg bg => exact .advances hop (q.of_sameControl e) (e.fg ▸ fg) (e.bg ▸ bg)
  | stays q fg bg => exact .stays (q.of_sameControl e) (e.fg ▸ fg) (e.bg ▸ bg)
  | aborts q fg bg fault => exact .aborts (q.of_sameControl e) (e.fg ▸ fg) (e.bg ▸ bg) fault
  | sets ps cfg refresh fg bg => exact .sets ps (e.cfg ▸ cfg) (e.refresh ▸ refresh) (e.fg ▸ fg) (e.bg ▸ bg)
  | ends q fg bg => exact .ends (q.of_sameControl e) (e.fg ▸ fg) (e.bg ▸ bg)

/-- A micro-op is quiet, a `SET`, or `END`. -/
theorem quiet_or_set_or_end (op : MicroOp) :
    op.quiet = true ∨ (∃ ps, op = .assign ps) ∨ op = .endProg := by
  cases op with
  | assign ps => exact .inr (.inl ⟨ps, rfl⟩)
  | endProg => exact .inr (.inr rfl)
  | _ => exact .inl rfl

theorem exec_fgEffect {s t : State} {op : MicroOp} (hc : s.ctx = .fg) (hs : s.bg.inSegment = false)
    (he : exec op.toInstr s = .next t) : FgEffect s t op := by
  have leave : { s.bg with inSegment := false } = s.bg := by rw [← hs]
  rcases quiet_or_set_or_end op with hq | ⟨ps, rfl⟩ | rfl
  · rcases exec_fgQuiet hc hq he with ⟨q, -, fg, bg⟩ | ⟨q, -, fg, bg⟩ | ⟨q, fg, bg, fault⟩
    · exact .advances hq q fg (by simpa [leave] using bg)
    · exact .stays q fg (by simpa [leave] using bg)
    · exact .aborts q fg bg fault
  · cases he
    obtain ⟨hcfg, -, hfg, hbg, -, -, -, -, -, hctx, -, -, -⟩ := s.assignAll_frame ps
    refine .sets ps ?_ ?_ ?_ ?_ <;> simp [State.advance_of_fg (hctx.trans hc), hcfg, hfg, hbg, State.assignAll_refresh]
  · cases he
    refine .ends ⟨?_, ?_, ?_, ?_, ?_⟩ ?_ ?_ <;> simp [State.endContext_of_fg hc]

/-! ### BG's micro-op -/

/-- The trace has grown by events among which are, in order, the frames of `ms`. -/
def SentFramesOf (s t : State) (ms : List MicroOp) : Prop :=
  ∃ es, t.trace = s.trace ++ es ∧ (frameEvents ms).Sublist es

/-- Everything BG's micro-op can do to the refresh registers and the contexts, with the frame that it has sent. Only
`WAITRY` must be known to keep its segment when it advances (40 R77, 42 R103). -/
inductive BgEffect (s t : State) : MicroOp → Prop
  | advances {op} (hop : op.quiet = true) (q : QuietStep s t) (fg : t.fg = s.fg) (seg : Bool)
      (bg : t.bg = { s.bg with pc := s.bg.pc + 1, inSegment := seg }) (keeps : op = .waitry → seg = true)
      (sent : SentFramesOf s t [op]) : BgEffect s t op
  | stays {op} (hop : op.quiet = true) (q : QuietStep s t) (fg : t.fg = s.fg) (seg : Bool)
      (bg : t.bg = { s.bg with inSegment := seg }) : BgEffect s t op
  | aborts {op} (q : QuietStep s t) (fg : t.fg = s.fg)
      (bg : t.bg = { s.bg with err := true, inSegment := false, active := false })
      (fault : t.transportFaulted = true) : BgEffect s t op
  | sets (ps : List Assign) (cfg : t.cfg = s.cfg) (refresh : t.refresh = s.refresh.assignAll ps) (fg : t.fg = s.fg)
      (bg : t.bg = { s.bg with pc := s.bg.pc + 1, inSegment := true }) : BgEffect s t (.assign ps)
  | ends (q : QuietStep s t) (fg : t.fg = s.fg) (bg : t.bg = { s.bg with active := false, inSegment := false }) :
      BgEffect s t .endProg

theorem BgEffect.of_sameControl {s r t : State} {op : MicroOp} (e : SameControl s r) (h : BgEffect r t op) :
    BgEffect s t op := by
  cases h with
  | advances hop q fg seg bg keeps sent =>
    exact .advances hop (q.of_sameControl e) (e.fg ▸ fg) seg (e.bg ▸ bg) keeps (by simpa [SentFramesOf, e.trace] using sent)
  | stays hop q fg seg bg => exact .stays hop (q.of_sameControl e) (e.fg ▸ fg) seg (e.bg ▸ bg)
  | aborts q fg bg fault => exact .aborts (q.of_sameControl e) (e.fg ▸ fg) (e.bg ▸ bg) fault
  | sets ps cfg refresh fg bg => exact .sets ps (e.cfg ▸ cfg) (e.refresh ▸ refresh) (e.fg ▸ fg) (e.bg ▸ bg)
  | ends q fg bg => exact .ends (q.of_sameControl e) (e.fg ▸ fg) (e.bg ▸ bg)

/-- A frame micro-op of BG that leaves BG active has sent its frame (40 R67, R68). -/
theorem State.emitOp_sent {s : State} (hc : s.ctx = .bg) (k : FrameKind) (bs : List Byte) (bi : Bool)
    (ha : (s.emitOp k bs bi).bg.active = true) : (s.emitOp k bs bi).trace = s.trace ++ [.frame k bs] := by
  rcases s.emitOp_cases k bs bi with ⟨-, e⟩ | ⟨-, e⟩ <;> rw [e] at ha ⊢
  · simp
  · obtain ⟨-, -, hbg, -⟩ := State.frameFailed_bg hc k bs
    rw [hbg] at ha
    cases ha

/-- A micro-op of BG that leaves BG active has sent its frame, if it has one. -/
theorem exec_sentFrames {s t : State} {op : MicroOp} (hc : s.ctx = .bg) (he : exec op.toInstr s = .next t)
    (ha : t.bg.active = true) : SentFramesOf s t [op] := by
  have noFrame (h : frameOf op = none) : SentFramesOf s t [op] := by
    obtain ⟨es, htr, -⟩ := (exec_sticky _ s t he).trace
    exact ⟨es, htr, by simp [frameEvents, h]⟩
  cases op with
  | cmd op bi =>
    cases he
    exact ⟨_, State.emitOp_sent hc _ _ _ ha, List.Sublist.refl _⟩
  | data b bs bi =>
    cases he
    exact ⟨_, State.emitOp_sent hc _ _ _ ha, List.Sublist.refl _⟩
  | _ => exact noFrame rfl

/-- A `WAITRY` of BG that advances stays in its segment (40 R77). -/
theorem exec_waitry_segment {s t : State} (hc : s.ctx = .bg) (he : exec .uopWaitry s = .next t)
    (hpc : t.bg.pc = s.bg.pc + 1) : t.bg.inSegment = true := by
  have hs : s.afterSample.ctx = .bg := by simp [hc]
  cases he
  split at hpc
  · simp at hpc
  · next h => simp [h, State.advance_of_bg hs]

theorem exec_bgEffect {s t : State} {op : MicroOp} (hc : s.ctx = .bg) (ha : s.bg.active = true)
    (he : exec op.toInstr s = .next t) : BgEffect s t op := by
  rcases quiet_or_set_or_end op with hq | ⟨ps, rfl⟩ | rfl
  · rcases exec_bgQuiet hc hq he with ⟨q, -, fg, seg, bg⟩ | ⟨q, -, fg, seg, bg⟩ | ⟨q, fg, bg, fault⟩
    · refine .advances hq q fg seg bg ?_ (exec_sentFrames hc he (by rw [bg]; exact ha))
      rintro rfl
      simpa [bg] using exec_waitry_segment hc he (by rw [bg])
    · exact .stays hq q fg seg bg
    · exact .aborts q fg bg fault
  · cases he
    obtain ⟨hcfg, -, hfg, hbg, -, -, -, -, -, hctx, -, -, -⟩ := s.assignAll_frame ps
    refine .sets ps ?_ ?_ ?_ ?_ <;> simp [State.advance_of_bg (hctx.trans hc), hcfg, hfg, hbg, State.assignAll_refresh]
  · cases he
    refine .ends ⟨?_, ?_, ?_, ?_, ?_⟩ ?_ ?_ <;> simp [State.endContext_of_bg hc]

/-! ### The acceptance of a host operation -/

/-- FG as an accepted operation starts it (10 R28). -/
def startedFg (op : BitVec 4) (prog : List MicroOp) : Foreground := { active := true, op := .host op, prog := prog, pc := 0 }

/-- BG as a full-mode `SHOW` under a cooperative runtime starts it (10 R29). -/
def startedBg (prog : List MicroOp) : Background :=
  { active := true, prog := prog, pc := 0, inSegment := false, err := false }

/-- Everything that the acceptance of a `CMD` word can do to the refresh registers and the contexts (41 R82 to R97). -/
inductive AcceptEffect (s t : State) : Instr → Prop
  /-- It finishes at once and writes no refresh register but the result. -/
  | finishes {i} (q : QuietStep s t) (fg : t.fg = s.fg) (bg : t.bg = s.bg) : AcceptEffect s t i
  /-- A mode selection. -/
  | selects {i} (hi : i = .selectFull ∨ i = .selectPartial) (k : KeepsRefresh s t) (fg : t.fg = s.fg)
      (bg : t.bg = s.bg) : AcceptEffect s t i
  /-- It starts FG with a program other than a refresh. -/
  | starts {i} (op : BitVec 4) (prog : List MicroOp) (own : expandsTo s.cfg (.host op) prog = true)
      (inOrder : programInv s.cfg prog 0 = true) (keeps : prog.all MicroOp.keepsRefresh = true)
      (q : QuietStep s t) (fg : t.fg = startedFg op prog) (bg : t.bg = s.bg) : AcceptEffect s t i
  /-- A full-mode `SHOW` without a cooperative runtime (41 R89). -/
  | showsBlocking (idle : s.refresh.fsm = .idle) (hmode : s.refresh.mode = .fullMode)
      (blocking : s.cfg.asyncRuntime = false) (cfg : t.cfg = s.cfg)
      (refresh : t.refresh = { s.refresh with fsm := .refreshingFull })
      (fg : t.fg = startedFg 0x4 s.cfg.pFullBlk) (bg : t.bg = s.bg) : AcceptEffect s t .showRefresh
  /-- A partial-mode `SHOW` (41 R91). -/
  | showsPartial (idle : s.refresh.fsm = .idle) (hmode : s.refresh.mode = .partialMode) (cfg : t.cfg = s.cfg)
      (refresh : t.refresh = { s.refresh with fsm := .refreshingPartial })
      (fg : t.fg = startedFg 0x4 s.cfg.pPart) (bg : t.bg = s.bg) : AcceptEffect s t .showRefresh
  /-- A full-mode `SHOW` under a cooperative runtime (41 R90). -/
  | showsAsync (idle : s.refresh.fsm = .idle) (hmode : s.refresh.mode = .fullMode)
      (async : s.cfg.asyncRuntime = true) (cfg : t.cfg = s.cfg)
      (refresh : t.refresh =
        { s.refresh with fsm := .refreshingFull, updated := false, complete := false, resultCode := .ok })
      (fg : t.fg = s.fg) (bg : t.bg = startedBg s.cfg.pFullAsync)
      (trace : t.trace = s.trace ++ [.hostOp (.host 0x4) .ok]) : AcceptEffect s t .showRefresh

theorem AcceptEffect.of_sameControl {s r t : State} {i : Instr} (e : SameControl s r) (h : AcceptEffect r t i) :
    AcceptEffect s t i := by
  cases h with
  | finishes q fg bg => exact .finishes (q.of_sameControl e) (e.fg ▸ fg) (e.bg ▸ bg)
  | selects hi k fg bg => exact .selects hi (k.of_sameControl e) (e.fg ▸ fg) (e.bg ▸ bg)
  | starts op prog own inOrder keeps q fg bg =>
    exact .starts op prog (e.cfg ▸ own) (e.cfg ▸ inOrder) keeps (q.of_sameControl e) fg (e.bg ▸ bg)
  | showsBlocking idle hmode blocking cfg refresh fg bg =>
    exact .showsBlocking (e.refresh ▸ idle) (e.refresh ▸ hmode) (e.cfg ▸ blocking) (e.cfg ▸ cfg) (e.refresh ▸ refresh)
      (e.cfg ▸ fg) (e.bg ▸ bg)
  | showsPartial idle hmode cfg refresh fg bg =>
    exact .showsPartial (e.refresh ▸ idle) (e.refresh ▸ hmode) (e.cfg ▸ cfg) (e.refresh ▸ refresh) (e.cfg ▸ fg) (e.bg ▸ bg)
  | showsAsync idle hmode async cfg refresh fg bg trace =>
    exact .showsAsync (e.refresh ▸ idle) (e.refresh ▸ hmode) (e.cfg ▸ async) (e.cfg ▸ cfg) (e.refresh ▸ refresh)
      (e.fg ▸ fg) (e.cfg ▸ bg) (e.trace ▸ trace)

theorem State.busy_eq_false {s : State} (h : s.busy = false) : s.refresh.fsm = .idle := by
  simpa [State.busy] using h

/-- An operation that requires `Idle` faults, or has the effect it has while `Idle` (41 R84). -/
theorem AcceptEffect.requireIdle {s t : State} {i : Instr} (op : BitVec 4) (h : AcceptEffect s t i) :
    AcceptEffect s (s.requireIdle op t) i := by
  unfold State.requireIdle
  split
  · exact .finishes ⟨rfl, rfl, rfl, rfl, rfl⟩ rfl rfl
  · exact h

/-- A frame-buffer operation finishes at once, in range or not (43 preamble). -/
theorem AcceptEffect.ifInRange {s t : State} (i : Instr) (op : BitVec 4) (inRange : Bool) (cfg : t.cfg = s.cfg)
    (refresh : t.refresh = s.refresh) (fg : t.fg = s.fg) (bg : t.bg = s.bg) :
    AcceptEffect s (s.ifInRange op inRange t) i := by
  unfold State.ifInRange
  split
  · refine .finishes ⟨cfg, ?_, ?_, ?_, ?_⟩ fg bg <;> simp [refresh]
  · exact .finishes ⟨rfl, rfl, rfl, rfl, rfl⟩ rfl rfl

theorem AcceptEffect.startFg {s : State} (i : Instr) (op : BitVec 4) {prog : List MicroOp}
    (own : expandsTo s.cfg (.host op) prog = true) (inOrder : programInv s.cfg prog 0 = true)
    (keeps : prog.all MicroOp.keepsRefresh = true) : AcceptEffect s (s.startFg op prog) i :=
  .starts op prog own inOrder keeps ⟨rfl, rfl, rfl, rfl, rfl⟩ rfl rfl

theorem execSelectPartial_effect {s t : State} (he : execSelectPartial s = .next t) :
    AcceptEffect s t .selectPartial := by
  cases he
  refine AcceptEffect.requireIdle _ ?_
  split
  · exact .selects (.inr rfl) ⟨rfl, rfl, rfl, rfl⟩ rfl rfl
  · exact .finishes ⟨rfl, rfl, rfl, rfl, rfl⟩ rfl rfl

theorem execShow_effect {s t : State} (he : execShow s = .next t) : AcceptEffect s t .showRefresh := by
  cases he
  split
  · exact .finishes ⟨rfl, rfl, rfl, rfl, rfl⟩ rfl rfl
  · next hb =>
    have idle := State.busy_eq_false (Bool.eq_false_of_not_eq_true hb)
    split
    · next hm =>
      split
      · next ha => exact .showsAsync idle hm ha rfl rfl rfl rfl rfl
      · next ha => exact .showsBlocking idle hm (Bool.eq_false_of_not_eq_true ha) rfl rfl rfl rfl
    · next hm => exact .showsPartial idle hm rfl rfl rfl rfl

theorem expandsTo_pInit (c : Cfg) (f : Bool) : expandsTo c (.host 0x1) (c.pInit f) = true := by
  cases f <;> simp [expandsTo]

/-- What the operation of a `CMD` word does, from `exec`. -/
theorem exec_acceptEffect {i : Instr} {s t : State} (hi : (encode i).1 = .hostWord) (he : exec i s = .next t) :
    AcceptEffect s t i := by
  cases i with
  | initFull =>
    cases he
    exact .requireIdle _ (.startFg _ _ (expandsTo_pInit _ _) (s.cfg.programInv_pInit _) (s.cfg.pInit_keepsRefresh _))
  | selectFull =>
    cases he
    exact .requireIdle _ (.selects (.inl rfl) ⟨rfl, rfl, rfl, rfl⟩ rfl rfl)
  | selectPartial => exact execSelectPartial_effect he
  | showRefresh => exact execShow_effect he
  | clear =>
    cases he
    exact .requireIdle _ (.startFg _ _ (by simp [expandsTo]) s.cfg.programInv_pClear s.cfg.pClear_keepsRefresh)
  | sleep =>
    cases he
    exact .requireIdle _ (.startFg _ _ (by simp [expandsTo]) s.cfg.programInv_pSleep s.cfg.pSleep_keepsRefresh)
  | reset =>
    cases he
    exact .startFg _ _ rfl (programInv_pReset _) pReset_keepsRefresh
  | waitReady =>
    cases he
    exact .startFg _ _ rfl (programInv_pWait _) pWait_keepsRefresh
  | setPixel | getPixel | readByte | writeByte =>
    cases he
    exact .ifInRange _ _ _ rfl rfl rfl rfl
  | fill | reservedOp0 | reservedOpE | reservedOpF | reservedHighBits =>
    cases he
    exact .finishes ⟨rfl, rfl, rfl, rfl, rfl⟩ rfl rfl
  | _ => cases hi

/-! ### The machine -/

/-- Everything a step can do to the refresh registers and the contexts, with the instruction it executes. -/
inductive ControlStep (s t : State) : Prop
  | blockReset (turn : s.nextTurn = .blockReset) (eq : t = s.afterTurn.blockReset)
  | rests (turn : s.nextTurn ≠ .blockReset) (q : QuietStep s t) (fg : t.fg = s.fg) (bg : t.bg = s.bg)
  | accepts (i : Instr) (turn : s.nextTurn = .host) (runs : s.executes = some i) (idleFg : s.fg.active = false)
      (yielded : s.bg.inSegment = false) (effect : AcceptEffect s t i)
  | foreground (op : MicroOp) (turn : s.nextTurn = .fg) (runs : s.executes = some op.toInstr)
      (active : s.fg.active = true) (yielded : s.bg.inSegment = false) (fetched : s.fgOp = some op)
      (effect : FgEffect s t op)
  | background (op : MicroOp) (turn : s.nextTurn = .bg) (runs : s.executes = some op.toInstr)
      (active : s.bg.active = true) (fetched : s.bgOp = some op) (effect : BgEffect s t op)

theorem State.accept_iff (s : State) : s.accept = true ↔ s.fg.active = false ∧ s.bg.inSegment = false := by
  simp [State.accept]

theorem State.hostRead_control (s : State) (off : Word) :
    QuietStep s (s.hostRead off) ∧ (s.hostRead off).fg = s.fg ∧ (s.hostRead off).bg = s.bg := by
  have h : SameControl s { s.afterRead off with trace := s.trace } := by
    unfold State.afterRead
    split
    · exact ⟨by simp, by simp, by simp, by simp, rfl⟩
    · split <;> exact ⟨rfl, rfl, rfl, rfl, rfl⟩
  exact ⟨.of_refresh h.cfg h.refresh, h.fg, h.bg⟩

theorem State.hostWrite_control (s : State) (off v : Word) : SameControl s (s.hostWrite off v) := by
  unfold State.hostWrite
  split
  · exact ⟨rfl, rfl, rfl, rfl, rfl⟩
  · split
    · exact ⟨rfl, rfl, rfl, rfl, rfl⟩
    · split <;> exact ⟨rfl, rfl, rfl, rfl, rfl⟩

theorem State.pollOnce_control (s : State) (bit : Nat) (want : Bool) :
    QuietStep s (s.pollOnce bit want) ∧ (s.pollOnce bit want).fg = s.fg ∧ (s.pollOnce bit want).bg = s.bg := by
  obtain ⟨⟨hcfg, hfsm, hmode, hupdated, hcomplete⟩, hfg, hbg⟩ := s.hostRead_control offStatus
  unfold State.pollOnce
  split <;> exact ⟨⟨hcfg, hfsm, hmode, hupdated, hcomplete⟩, hfg, hbg⟩

theorem ControlStep.of_host {s t : State} (turn : s.nextTurn = .host) (h : hostStep s.afterTurn = .next t) :
    ControlStep s t := by
  have e := s.afterTurn_sameControl
  have pop := e.trans s.afterTurn.popAccess_sameControl
  have notReset : s.nextTurn ≠ .blockReset := by simp [turn]
  rcases hostStep_next h with rfl | ⟨_, off, _, -, rfl⟩ | ⟨bit, want, _, -, rfl⟩ | ⟨_, off, v, _, -, -, rfl⟩
    | ⟨_, v, rest, hhost, hacc, he⟩
  · exact .rests notReset (.of_refresh e.cfg e.refresh) e.fg e.bg
  · obtain ⟨q, fg, bg⟩ := s.afterTurn.popAccess.hostRead_control off
    exact .rests notReset (q.of_sameControl pop) (fg.trans pop.fg) (bg.trans pop.bg)
  · obtain ⟨q, fg, bg⟩ := s.afterTurn.pollOnce_control bit want
    exact .rests notReset (q.of_sameControl e) (fg.trans e.fg) (bg.trans e.bg)
  · have w := pop.trans (s.afterTurn.popAccess.hostWrite_control off v)
    exact .rests notReset (.of_refresh w.cfg w.refresh) w.fg w.bg
  · obtain ⟨hfg, hbg⟩ := (State.accept_iff _).mp hacc
    rw [e.fg] at hfg
    rw [e.bg] at hbg
    have hhost' : s.env.host = .write _ offCmd v :: rest := s.afterTurn_env.1 ▸ hhost
    have runs : s.executes = some (decodeHostWord v) := by
      simp [State.executes, turn, hhost', State.accept_iff, hfg, hbg]
    exact .accepts _ turn runs hfg hbg ((exec_acceptEffect (decodeHostWord_space v) he).of_sameControl pop)

theorem ControlStep.of_fg {s t : State} (turn : s.nextTurn = .fg) (h : fgStep s.afterTurn = .next t) :
    ControlStep s t := by
  have e := s.afterTurn_sameControl
  rcases fgStep_next h with ⟨-, rfl⟩ | ⟨hen, op, hop, he⟩
  · exact .rests (by simp [turn]) (.of_refresh e.cfg e.refresh) e.fg e.bg
  · simp only [State.fgEnabled, State.fgOp, e.fg, e.bg] at hen hop
    have runs : s.executes = some op.toInstr := by
      simp only [State.executes, turn, State.fgEnabled, State.fgOp, hen, hop, if_true, Option.map_some]
    simp only [Bool.and_eq_true, Bool.not_eq_true'] at hen
    refine .foreground op turn runs hen.1 hen.2 hop ?_
    exact (exec_fgEffect rfl (by simpa using hen.2) he).of_sameControl (e.trans (s.afterTurn.inCtx_sameControl .fg))

theorem ControlStep.of_bg {s t : State} (turn : s.nextTurn = .bg) (h : bgStep s.afterTurn = .next t) :
    ControlStep s t := by
  have e := s.afterTurn_sameControl
  rcases bgStep_next h with ⟨-, rfl⟩ | ⟨hen, op, hop, he⟩
  · exact .rests (by simp [turn]) (.of_refresh e.cfg e.refresh) e.fg e.bg
  · simp only [State.bgEnabled, State.bgOp, State.fgOp, e.fg, e.bg] at hen hop
    have runs : s.executes = some op.toInstr := by
      simp only [State.executes, turn, State.bgEnabled, State.bgOp, State.fgOp, hen, hop, if_true, Option.map_some]
    rw [Bool.and_eq_true] at hen
    refine .background op turn runs hen.1 hop ?_
    exact (exec_bgEffect rfl (by simpa using hen.1) he).of_sameControl (e.trans (s.afterTurn.inCtx_sameControl .bg))

/-- Every step is one of `ControlStep`. -/
theorem step_control {s t : State} (h : step s = .next t) : ControlStep s t := by
  obtain ⟨-, -, hs⟩ := step_next h
  have e := s.afterTurn_sameControl
  cases turn : s.nextTurn with
  | host => rw [turn] at hs; exact .of_host turn hs
  | fg => rw [turn] at hs; exact .of_fg turn hs
  | bg => rw [turn] at hs; exact .of_bg turn hs
  | panelRise | panelFall | panelNone =>
    rw [turn] at hs
    cases hs
    exact .rests (by simp [turn]) (.of_refresh e.cfg e.refresh) e.fg e.bg
  | blockReset => exact .blockReset turn (step_blockReset h turn)

end Sys2Proof.Machine
end

section
/-! What every step keeps of the contexts' programs (10 R28 to R30, 42 R102): the program in progress is in order, it is
that of its operation, and the frames of what BG has executed are in the trace. -/

namespace Sys2Proof.Machine

/-! ### Programs in order -/

theorem programInv_iff {c : Cfg} {prog : List MicroOp} {pc : Nat} :
    programInv c prog pc = true ↔
      pc < prog.length ∧ prog.getLast? = some .endProg ∧ prog.all (MicroOp.wellFormed c) = true := by
  simp [programInv, and_assoc]

/-- A program in order is one still past a micro-op that is not its `END` (10 R30). -/
theorem programInv_succ {c : Cfg} {prog : List MicroOp} {pc : Nat} {op : MicroOp} (h : programInv c prog pc = true)
    (hop : prog[pc]? = some op) (hne : op ≠ .endProg) : programInv c prog (pc + 1) = true := by
  obtain ⟨hlt, hlast, hwf⟩ := programInv_iff.mp h
  refine programInv_iff.mpr ⟨?_, hlast, hwf⟩
  by_contra hge
  have hpc : prog.length - 1 = pc := by omega
  rw [List.getLast?_eq_getElem?, hpc, hop] at hlast
  exact hne (Option.some.inj hlast)

theorem State.contextInv_iff (s : State) :
    s.contextInv = true ↔
      (s.fg.active = true → programInv s.cfg s.fg.prog s.fg.pc = true)
        ∧ (s.bg.active = true → programInv s.cfg s.bg.prog s.bg.pc = true)
        ∧ (s.bg.active = false → s.bg.inSegment = false) := by
  unfold State.contextInv
  cases s.fg.active <;> cases s.bg.active <;> simp

theorem ne_endProg_of_quiet {op : MicroOp} (h : op.quiet = true) : op ≠ .endProg := by
  rintro rfl
  cases h

/-- FG's clause of `State.contextInv` after FG's micro-op. -/
theorem FgEffect.programInv {s t : State} {op : MicroOp} (e : FgEffect s t op) (hop : s.fgOp = some op)
    (h : programInv s.cfg s.fg.prog s.fg.pc = true) (ha : t.fg.active = true) :
    programInv t.cfg t.fg.prog t.fg.pc = true := by
  cases e with
  | advances hq q fg bg => rw [q.cfg, fg]; exact programInv_succ h hop (ne_endProg_of_quiet hq)
  | stays q fg bg => rw [q.cfg, fg]; exact h
  | sets ps cfg refresh fg bg => rw [cfg, fg]; exact programInv_succ h hop (by simp)
  | aborts q fg bg fault => rw [fg] at ha; cases ha
  | ends q fg bg => rw [fg] at ha; cases ha

/-- BG's clauses of `State.contextInv` after BG's micro-op. -/
theorem BgEffect.programInv {s t : State} {op : MicroOp} (e : BgEffect s t op) (hop : s.bgOp = some op)
    (hs : s.bg.active = true) (h : programInv s.cfg s.bg.prog s.bg.pc = true) :
    (t.bg.active = true → programInv t.cfg t.bg.prog t.bg.pc = true) ∧ (t.bg.active = false → t.bg.inSegment = false) := by
  cases e with
  | advances hq q fg seg bg _ _ =>
    rw [q.cfg, bg]
    exact ⟨fun _ => programInv_succ h hop (ne_endProg_of_quiet hq), fun ha => by simp [hs] at ha⟩
  | stays _ q fg seg bg =>
    rw [q.cfg, bg]
    exact ⟨fun _ => h, fun ha => by simp [hs] at ha⟩
  | sets ps cfg refresh fg bg =>
    rw [cfg, bg]
    exact ⟨fun _ => programInv_succ h hop (by simp), fun ha => by simp [hs] at ha⟩
  | aborts q fg bg fault => rw [bg]; exact ⟨nofun, fun _ => rfl⟩
  | ends q fg bg => rw [bg]; exact ⟨nofun, fun _ => rfl⟩

theorem FgEffect.bg {s t : State} {op : MicroOp} (e : FgEffect s t op) : t.bg = s.bg := by
  cases e <;> assumption

theorem BgEffect.fg {s t : State} {op : MicroOp} (e : BgEffect s t op) : t.fg = s.fg := by
  cases e <;> assumption

theorem FgEffect.cfg {s t : State} {op : MicroOp} (e : FgEffect s t op) : t.cfg = s.cfg := by
  cases e with
  | sets _ cfg => exact cfg
  | advances _ q | stays q | aborts q | ends q => exact q.cfg

theorem BgEffect.cfg {s t : State} {op : MicroOp} (e : BgEffect s t op) : t.cfg = s.cfg := by
  cases e with
  | sets _ cfg => exact cfg
  | advances _ q | stays _ q | aborts q | ends q => exact q.cfg

/-- What an accepted operation leaves of the contexts: FG as it was or started with a program in order, and BG
likewise. -/
theorem AcceptEffect.contextInv {s t : State} {i : Instr} (e : AcceptEffect s t i) (h : s.contextInv = true) :
    t.contextInv = true := by
  rw [State.contextInv_iff] at h ⊢
  cases e with
  | finishes q fg bg => rwa [q.cfg, fg, bg]
  | selects _ k fg bg => rwa [k.cfg, fg, bg]
  | starts op prog _ inOrder _ q fg bg => rw [q.cfg, fg, bg]; exact ⟨fun _ => inOrder, h.2⟩
  | showsBlocking _ _ _ cfg _ fg bg => rw [cfg, fg, bg]; exact ⟨fun _ => s.cfg.programInv_pFullBlk, h.2⟩
  | showsPartial _ _ cfg _ fg bg => rw [cfg, fg, bg]; exact ⟨fun _ => s.cfg.programInv_pPart, h.2⟩
  | showsAsync _ _ _ cfg _ fg bg _ => rw [cfg, fg, bg]; exact ⟨h.1, fun _ => s.cfg.programInv_pFullAsync, nofun⟩

theorem State.atReset_contextInv (c : Cfg) (b d m : Bool) (n : Nat) (e : Env) :
    (State.atReset c b d m n e).contextInv = true :=
  (State.contextInv_iff _).mpr ⟨fun _ => c.programInv_pConstruct, nofun, fun _ => rfl⟩

theorem step_contextInv {s t : State} (h : s.contextInv = true) (hs : step s = .next t) : t.contextInv = true := by
  cases step_control hs with
  | blockReset _ eq => rw [eq]; exact State.atReset_contextInv ..
  | rests _ q fg bg => rw [State.contextInv_iff] at h ⊢; rwa [q.cfg, fg, bg]
  | accepts i _ _ _ _ e => exact e.contextInv h
  | foreground op _ _ active _ fetched e =>
    rw [State.contextInv_iff] at h ⊢
    refine ⟨e.programInv fetched (h.1 active), ?_⟩
    rw [e.cfg, e.bg]
    exact h.2
  | background op _ _ active fetched e =>
    rw [State.contextInv_iff] at h ⊢
    refine ⟨?_, e.programInv fetched active (h.2.1 active)⟩
    rw [e.cfg, e.fg]
    exact h.1

/-! ### The programs of the operations -/

/-- FG runs on with the program it has, or stops. -/
theorem FgEffect.program {s t : State} {op : MicroOp} (e : FgEffect s t op) :
    t.fg.op = s.fg.op ∧ t.fg.prog = s.fg.prog := by
  cases e with
  | advances _ _ fg | stays _ fg | aborts _ fg | sets _ _ _ fg | ends _ fg => rw [fg]; exact ⟨rfl, rfl⟩

/-- BG runs on with the program it has, or stops. -/
theorem BgEffect.program {s t : State} {op : MicroOp} (e : BgEffect s t op) : t.bg.prog = s.bg.prog := by
  cases e with
  | advances _ _ _ _ bg | stays _ _ _ _ bg | aborts _ _ bg | sets _ _ _ _ bg | ends _ _ bg => rw [bg]

theorem AcceptEffect.ownPrograms {s t : State} {i : Instr} (e : AcceptEffect s t i) (h : s.ownPrograms = true) :
    t.ownPrograms = true := by
  rw [State.ownPrograms_iff] at h ⊢
  cases e with
  | finishes q fg bg => rwa [q.cfg, fg, bg]
  | selects _ k fg bg => rwa [k.cfg, fg, bg]
  | starts op prog own _ _ q fg bg => rw [q.cfg, fg, bg]; exact ⟨fun _ => own, h.2⟩
  | showsBlocking _ _ blocking cfg _ fg bg =>
    rw [cfg, fg, bg]
    exact ⟨fun _ => by simp [startedFg, expandsTo, blocking], h.2⟩
  | showsPartial _ _ cfg _ fg bg => rw [cfg, fg, bg]; exact ⟨fun _ => by simp [startedFg, expandsTo], h.2⟩
  | showsAsync _ _ async cfg _ fg bg _ => rw [cfg, fg, bg]; exact ⟨h.1, fun _ => ⟨async, rfl⟩⟩

theorem State.atReset_ownPrograms (c : Cfg) (b d m : Bool) (n : Nat) (e : Env) :
    (State.atReset c b d m n e).ownPrograms = true :=
  (State.ownPrograms_iff _).mpr ⟨fun _ => by simp [State.atReset, expandsTo], nofun⟩

theorem step_ownPrograms {s t : State} (h : s.ownPrograms = true) (hs : step s = .next t) : t.ownPrograms = true := by
  cases step_control hs with
  | blockReset _ eq => rw [eq]; exact State.atReset_ownPrograms ..
  | rests _ q fg bg => rw [State.ownPrograms_iff] at h ⊢; rwa [q.cfg, fg, bg]
  | accepts i _ _ _ _ e => exact e.ownPrograms h
  | foreground op _ _ active _ _ e =>
    rw [State.ownPrograms_iff] at h ⊢
    rw [e.cfg, e.bg, e.program.1, e.program.2]
    exact ⟨fun _ => h.1 active, h.2⟩
  | background op _ _ active _ e =>
    rw [State.ownPrograms_iff] at h ⊢
    rw [e.cfg, e.fg, e.program]
    exact ⟨h.1, fun _ => h.2 active⟩

/-! ### BG's frames -/

theorem frameEvents_append (ms ns : List MicroOp) : frameEvents (ms ++ ns) = frameEvents ms ++ frameEvents ns := by
  simp [frameEvents]

/-- The frames of the executed part of a program, one micro-op on. -/
theorem frameEvents_take_succ {prog : List MicroOp} {pc : Nat} {op : MicroOp} (h : prog[pc]? = some op) :
    frameEvents (prog.take (pc + 1)) = frameEvents (prog.take pc) ++ frameEvents [op] := by
  rw [List.take_add_one, h, frameEvents_append]
  rfl

/-- A longer trace holds BG's frames still, and one more micro-op's where they are among the new events. -/
theorem State.bgFramesSent.grow {s t : State} {ms : List MicroOp} (h : s.bgFramesSent) (active : s.bg.active = true)
    (taken : frameEvents (t.bg.prog.take t.bg.pc) = frameEvents (s.bg.prog.take s.bg.pc) ++ frameEvents ms)
    (sent : SentFramesOf s t ms) : t.bgFramesSent := by
  obtain ⟨before, after, htrace, hsub⟩ := h active
  obtain ⟨es, htr, hes⟩ := sent
  refine fun _ => ⟨before, after ++ es, ?_, ?_⟩
  · rw [htr, htrace, List.append_assoc, List.cons_append]
  · rw [taken]
    exact hsub.append hes

theorem State.bgFramesSent.of_bg {s t : State} (h : s.bgFramesSent) (bg : t.bg = s.bg)
    (trace : TraceGrows s.trace t.trace) : t.bgFramesSent := by
  intro ha
  obtain ⟨es, htr, -⟩ := trace
  rw [bg] at ha
  exact State.bgFramesSent.grow h ha (ms := []) (by simp [bg, frameEvents]) ⟨es, htr, List.nil_sublist _⟩ (bg ▸ ha)

theorem AcceptEffect.bgFramesSent {s t : State} {i : Instr} (e : AcceptEffect s t i) (h : s.bgFramesSent)
    (trace : TraceGrows s.trace t.trace) : t.bgFramesSent := by
  cases e with
  | showsAsync _ _ _ _ _ _ bg tr =>
    rw [State.bgFramesSent, bg]
    exact fun _ => ⟨s.trace, [], tr, List.Sublist.refl _⟩
  | finishes _ _ bg | selects _ _ _ bg | starts _ _ _ _ _ _ _ bg | showsBlocking _ _ _ _ _ _ bg
  | showsPartial _ _ _ _ _ bg => exact h.of_bg bg trace

theorem BgEffect.bgFramesSent {s t : State} {op : MicroOp} (e : BgEffect s t op) (h : s.bgFramesSent)
    (active : s.bg.active = true) (hop : s.bgOp = some op) (trace : TraceGrows s.trace t.trace) : t.bgFramesSent := by
  obtain ⟨es, htr, -⟩ := trace
  cases e with
  | advances _ _ _ _ bg _ sent => exact State.bgFramesSent.grow h active (by rw [bg]; exact frameEvents_take_succ hop) sent
  | stays _ _ _ _ bg =>
    exact State.bgFramesSent.grow h active (ms := []) (by simp [bg, frameEvents]) ⟨es, htr, List.nil_sublist _⟩
  | sets ps _ _ _ bg =>
    exact State.bgFramesSent.grow h active (ms := [.assign ps]) (by rw [bg]; exact frameEvents_take_succ hop)
      ⟨es, htr, List.nil_sublist _⟩
  | aborts _ _ bg _ | ends _ _ bg => rw [State.bgFramesSent, bg]; exact nofun

theorem step_bgFramesSent {s t : State} (h : s.bgFramesSent) (hs : step s = .next t) : t.bgFramesSent := by
  have grows (turn : s.nextTurn ≠ .blockReset) : TraceGrows s.trace t.trace := (step_sticky hs turn).trace
  cases step_control hs with
  | blockReset _ eq => rw [eq]; exact nofun
  | rests turn _ _ bg => exact h.of_bg bg (grows turn)
  | accepts i turn _ _ _ e => exact e.bgFramesSent h (grows (by simp [turn]))
  | foreground op turn _ _ _ _ e => exact h.of_bg e.bg (grows (by simp [turn]))
  | background op turn _ active fetched e => exact e.bgFramesSent h active fetched (grows (by simp [turn]))

/-- Settles O51: each of the three from the relations of `ControlStep`, one lemma per relation. -/
theorem programInvariantKept : Obligations.ProgramInvariantKept :=
  ⟨fun _ _ => step_contextInv, fun _ _ => step_ownPrograms, fun _ _ => step_bgFramesSent⟩

end Sys2Proof.Machine
end

section
/-! What every step keeps of the laws of the refresh state machine, the events and the busy flag (10 R23 to R29,
40 R68, 42 R99, R103, R104), and which steps change `FSM` (41 R83). -/

namespace Sys2Proof.Machine

/-! ### What a context has still to run -/

/-- The current micro-op is the head of what a context has still to run. -/
theorem State.fgRest_of_fgOp {s : State} {op : MicroOp} (h : s.fgOp = some op) :
    s.fgRest = op :: s.fg.prog.drop (s.fg.pc + 1) := drop_of_getElem? h

theorem State.bgRest_of_bgOp {s : State} {op : MicroOp} (h : s.bgOp = some op) :
    s.bgRest = op :: s.bg.prog.drop (s.bg.pc + 1) := drop_of_getElem? h

/-- A quiet body in front of a `SET`: a quiet micro-op at its head is the body's. -/
theorem quietBody_tail {op : MicroOp} {rest pre tail : List MicroOp} {ps : List Assign} (hop : op.quiet = true)
    (h : op :: rest = pre ++ .assign ps :: tail) (hpre : pre.all MicroOp.quiet = true) :
    ∃ pre', rest = pre' ++ .assign ps :: tail ∧ pre'.all MicroOp.quiet = true := by
  cases pre with
  | nil =>
    obtain ⟨rfl, -⟩ := List.cons.inj h
    cases hop
  | cons q pre =>
    rw [List.all_cons, Bool.and_eq_true] at hpre
    exact ⟨pre, (List.cons.inj h).2, hpre.2⟩

/-- A quiet body in front of a `SET`: a head that is not quiet is that `SET`. -/
theorem quietBody_head {op : MicroOp} {rest pre tail : List MicroOp} {ps : List Assign} (hop : op.quiet = false)
    (h : op :: rest = pre ++ .assign ps :: tail) (hpre : pre.all MicroOp.quiet = true) :
    op = .assign ps ∧ rest = tail := by
  cases pre with
  | nil => exact List.cons.inj h
  | cons q pre =>
    rw [List.all_cons, Bool.and_eq_true, ← (List.cons.inj h).1, hop] at hpre
    cases hpre.1

/-! ### FG in a blocking refresh -/

theorem State.fgShowing.not_keepsRefresh {s : State} (h : s.fgShowing) : s.fgRest.all MicroOp.keepsRefresh = false := by
  obtain ⟨-, pre, hrest, -⟩ := h
  rw [hrest, List.all_append, Bool.and_eq_false_iff]
  exact .inr rfl

theorem State.fgShowing.of_fg {s t : State} (h : s.fgShowing) (fg : t.fg = s.fg) : t.fgShowing := by
  simpa only [State.fgShowing, State.fgRest, fg] using h

/-- A quiet micro-op of a blocking refresh leaves it in progress. -/
theorem State.fgShowing.advance {s t : State} {op : MicroOp} (h : s.fgShowing) (hop : s.fgOp = some op)
    (hq : op.quiet = true) (fg : t.fg = { s.fg with pc := s.fg.pc + 1 }) : t.fgShowing := by
  obtain ⟨active, pre, hrest, hpre⟩ := h
  rw [State.fgRest_of_fgOp hop] at hrest
  refine ⟨by rw [fg]; exact active, ?_⟩
  rw [State.fgRest, fg]
  exact quietBody_tail hq hrest hpre

/-- A micro-op of a blocking refresh that is not quiet is the `SET` that ends the refresh (41 R89, R91). -/
theorem State.fgShowing.settles {s : State} {op : MicroOp} (h : s.fgShowing) (hop : s.fgOp = some op)
    (hq : op.quiet = false) : op = .assign [.fsm .idle] ∧ s.fg.prog.drop (s.fg.pc + 1) = [.endProg] := by
  obtain ⟨-, pre, hrest, hpre⟩ := h
  rw [State.fgRest_of_fgOp hop] at hrest
  exact quietBody_head hq hrest hpre

/-- FG as an operation starts it has its whole program to run. -/
theorem State.fgRest_startedFg {t : State} {op : BitVec 4} {prog : List MicroOp} (h : t.fg = startedFg op prog) :
    t.fgRest = prog := by
  rw [State.fgRest, h]
  rfl

theorem State.fgShowing_startedFg {t : State} {op : BitVec 4} {prog : List MicroOp} (h : t.fg = startedFg op prog)
    (split : ∃ pre, prog = pre ++ blockingTail ∧ pre.all MicroOp.quiet = true) : t.fgShowing :=
  ⟨by rw [h]; rfl, by rwa [State.fgRest_startedFg h]⟩

/-! ### The phases of BG -/

/-- BG is in one of its three phases (42 R102, R103). -/
def State.bgPhases (s : State) : Prop := s.bgSending ∨ s.bgSettling ∨ s.bgSettled

/-- While BG runs and FG may accept, the refresh is in progress: BG has ended none yet. -/
theorem State.bgPhases.refreshing {s : State} (h : s.bgPhases) (yielded : s.bg.inSegment = false) :
    s.refresh.fsm = .refreshingFull := by
  rcases h with ⟨hf, -⟩ | ⟨hf, -⟩ | ⟨-, -, -, -, hs⟩
  · exact hf
  · exact hf
  · rw [yielded] at hs; cases hs

theorem State.bgPhases.of_same {s t : State} (h : s.bgPhases) (q : KeepsRefresh s t) (bg : t.bg = s.bg) : t.bgPhases := by
  simpa only [State.bgPhases, State.bgSending, State.bgSettling, State.bgSettled, State.bgRest, bg, q.fsm, q.updated,
    q.complete] using h

/-- A quiet micro-op of BG is one of a phase before the end of the refresh, and leaves BG in that phase. -/
theorem State.bgPhases.advance {s t : State} {op : MicroOp} {seg : Bool} (h : s.bgPhases) (hop : s.bgOp = some op)
    (hq : op.quiet = true) (q : KeepsRefresh s t) (bg : t.bg = { s.bg with pc := s.bg.pc + 1, inSegment := seg })
    (keeps : op = .waitry → seg = true) : t.bgPhases := by
  have hrest := State.bgRest_of_bgOp hop
  have hrest' : t.bgRest = s.bg.prog.drop (s.bg.pc + 1) := by rw [State.bgRest, bg]
  rcases h with ⟨hf, hu, hc, pre, hpre, hqpre⟩ | ⟨hf, hu, hc, hwait | ⟨hset, -⟩⟩ | ⟨-, -, -, hend, -⟩
  · refine .inl ⟨q.fsm.trans hf, q.updated.trans hu, q.complete.trans hc, ?_⟩
    rw [hrest']
    exact quietBody_tail hq (hrest.symm.trans hpre) hqpre
  · obtain ⟨rfl, htail⟩ := List.cons.inj (hrest.symm.trans hwait)
    refine .inr (.inl ⟨q.fsm.trans hf, q.updated.trans hu, q.complete.trans hc, .inr ⟨hrest'.trans htail, ?_⟩⟩)
    rw [bg]
    exact keeps rfl
  · obtain ⟨rfl, -⟩ := List.cons.inj (hrest.symm.trans hset)
    cases hq
  · obtain ⟨rfl, -⟩ := List.cons.inj (hrest.symm.trans hend)
    cases hq

/-- A `SET` of BG raises `UPDATED` at the end of its sending, or ends the refresh (42 R102, R103). -/
theorem State.bgPhases.sets {s : State} {ps : List Assign} (h : s.bgPhases) (hop : s.bgOp = some (.assign ps)) :
    (ps = [.updated true] ∧ s.bgSending ∧ s.bg.prog.drop (s.bg.pc + 1) = [.waitry, settleOp, .endProg])
      ∨ (ps = [.fsm .idle, .complete true] ∧ s.bgSettling ∧ s.bg.prog.drop (s.bg.pc + 1) = [.endProg]) := by
  have hrest := State.bgRest_of_bgOp hop
  rcases h with hsend | hsettle | ⟨-, -, -, hend, -⟩
  · obtain ⟨-, -, -, pre, hpre, hqpre⟩ := id hsend
    obtain ⟨e, htail⟩ := quietBody_head rfl (hrest.symm.trans hpre) hqpre
    exact .inl ⟨MicroOp.assign.inj e, hsend, htail⟩
  · obtain ⟨-, -, -, hwait | ⟨hset, -⟩⟩ := id hsettle
    · cases (List.cons.inj (hrest.symm.trans hwait)).1
    · obtain ⟨e, htail⟩ := List.cons.inj (hrest.symm.trans hset)
      exact .inr ⟨MicroOp.assign.inj e, hsettle, htail⟩
  · cases (List.cons.inj (hrest.symm.trans hend)).1

/-- BG that waits at its `END` has ended the refresh. -/
theorem State.bgPhases.ends {s : State} (h : s.bgPhases) (hop : s.bgOp = some .endProg) : s.bgSettled := by
  have hrest := State.bgRest_of_bgOp hop
  rcases h with ⟨-, -, -, pre, hpre, hqpre⟩ | ⟨-, -, -, hwait | ⟨hset, -⟩⟩ | hsettled
  · cases (quietBody_head rfl (hrest.symm.trans hpre) hqpre).1
  · cases (List.cons.inj (hrest.symm.trans hwait)).1
  · cases (List.cons.inj (hrest.symm.trans hset)).1
  · exact hsettled

/-- A quiet micro-op of BG that stays is one of a phase before the end of the refresh, and leaves BG in that phase. -/
theorem State.bgPhases.stay {s t : State} {op : MicroOp} {seg : Bool} (h : s.bgPhases) (hop : s.bgOp = some op)
    (hq : op.quiet = true) (q : KeepsRefresh s t) (bg : t.bg = { s.bg with inSegment := seg }) : t.bgPhases := by
  have hrest := State.bgRest_of_bgOp hop
  have hrest' : t.bgRest = s.bgRest := by rw [State.bgRest, bg]; rfl
  rcases h with ⟨hf, hu, hc, hpre⟩ | ⟨hf, hu, hc, hwait | ⟨hset, -⟩⟩ | ⟨-, -, -, hend, -⟩
  · exact .inl ⟨q.fsm.trans hf, q.updated.trans hu, q.complete.trans hc, hrest' ▸ hpre⟩
  · exact .inr (.inl ⟨q.fsm.trans hf, q.updated.trans hu, q.complete.trans hc, .inl (hrest'.trans hwait)⟩)
  · obtain ⟨rfl, -⟩ := List.cons.inj (hrest.symm.trans hset)
    cases hq
  · obtain ⟨rfl, -⟩ := List.cons.inj (hrest.symm.trans hend)
    cases hq

/-! ### The laws after each kind of step -/

/-- The laws after a step that keeps `FSM`, `UPDATED` and `COMPLETE`: what is left to show is about the contexts. -/
theorem State.RefreshInv.of_quiet {s t : State} (h : s.RefreshInv) (q : KeepsRefresh s t)
    (noSegment : t.bg.active = false → t.bg.inSegment = false) (bgPhase : t.bg.active = true → s.bg.active = true ∧ t.bgPhases)
    (fgKind : t.fg.active = true → t.fgRest.all MicroOp.keepsRefresh = true
      ∨ (t.fgShowing ∧ t.bg.active = false ∧ s.refresh.fsm ≠ .idle
        ∧ (s.cfg.asyncRuntime = true → s.refresh.fsm = .refreshingPartial)))
    (busyOrStuck : s.refresh.fsm ≠ .idle → t.bg.active = true ∨ t.fgShowing ∨ t.transportFaulted = true) :
    t.RefreshInv where
  noSegment := noSegment
  bgPhase := fun ha => by
    obtain ⟨active, phases⟩ := bgPhase ha
    exact ⟨q.cfg ▸ (h.bgPhase active).1, phases⟩
  fgKind := by rwa [q.fsm, q.cfg]
  completeUpdated := by rw [q.updated, q.complete]; exact h.completeUpdated
  blockingNoEvents := by rw [q.cfg, q.updated, q.complete]; exact h.blockingNoEvents
  fullNotComplete := by rw [q.cfg, q.fsm, q.complete]; exact h.fullNotComplete
  updatedPending := by rw [q.fsm, q.updated, q.complete]; exact h.updatedPending
  busyOrStuck := by rwa [q.fsm]

/-- The laws after a quiet step that leaves BG as it is. `F_TRANSPORT` is sticky. -/
theorem State.RefreshInv.of_bg {s t : State} (h : s.RefreshInv) (q : KeepsRefresh s t) (bg : t.bg = s.bg)
    (sticky : s.transportFaulted = true → t.transportFaulted = true)
    (keeps : s.fgRest.all MicroOp.keepsRefresh = true ∨ s.fg.active = false → t.fg.active = true →
      t.fgRest.all MicroOp.keepsRefresh = true)
    (showing : s.fgShowing → t.fgShowing ∨ t.fg.active = false ∧ t.transportFaulted = true) : t.RefreshInv := by
  refine h.of_quiet q (bg ▸ h.noSegment) (fun ha => ?_) (fun ha => ?_) (fun hb => ?_)
  · rw [bg] at ha
    exact ⟨ha, State.bgPhases.of_same (h.bgPhase ha).2 q bg⟩
  · cases hs : s.fg.active with
    | false => exact .inl (keeps (.inr hs) ha)
    | true =>
      rcases h.fgKind hs with hk | ⟨hshow, hbg, hbusy, hasync⟩
      · exact .inl (keeps (.inl hk) ha)
      · rcases showing hshow with hshow' | ⟨hi, -⟩
        · exact .inr ⟨hshow', bg ▸ hbg, hbusy, hasync⟩
        · rw [hi] at ha; cases ha
  · rcases h.busyOrStuck hb with ha | hs | hf
    · exact .inl (bg ▸ ha)
    · exact .inr ((showing hs).imp_right And.right)
    · exact .inr (.inr (sticky hf))

/-- The laws after a step that keeps `FSM`, `UPDATED`, `COMPLETE` and the contexts. -/
theorem State.RefreshInv.of_same {s t : State} (h : s.RefreshInv) (q : KeepsRefresh s t) (fg : t.fg = s.fg)
    (bg : t.bg = s.bg) (sticky : s.transportFaulted = true → t.transportFaulted = true) : t.RefreshInv := by
  refine h.of_bg q bg sticky (fun hk ha => ?_) (fun hs => .inl (hs.of_fg fg))
  rw [fg] at ha
  rw [State.fgRest, fg]
  exact hk.resolve_right (by simp [ha])

/-- While BG runs, FG writes none of the refresh registers. -/
theorem State.RefreshInv.fgKeeps {s : State} (h : s.RefreshInv) (active : s.bg.active = true) (ha : s.fg.active = true) :
    s.fgRest.all MicroOp.keepsRefresh = true := by
  rcases h.fgKind ha with hk | ⟨-, hbg, -⟩
  · exact hk
  · rw [active] at hbg; cases hbg

/-- The laws after a quiet micro-op of BG. -/
theorem State.RefreshInv.of_fg {s t : State} (h : s.RefreshInv) (active : s.bg.active = true) (q : KeepsRefresh s t)
    (fg : t.fg = s.fg) (noSegment : t.bg.active = false → t.bg.inSegment = false)
    (bgPhase : t.bg.active = true → t.bgPhases)
    (ended : t.bg.active = false → s.refresh.fsm ≠ .idle → t.transportFaulted = true) : t.RefreshInv := by
  refine h.of_quiet q noSegment (fun ha => ⟨active, bgPhase ha⟩) (fun ha => .inl ?_) (fun hb => ?_)
  · rw [fg] at ha
    rw [State.fgRest, fg]
    exact h.fgKeeps active ha
  · cases hbg : t.bg.active with
    | true => exact .inl rfl
    | false => exact .inr (.inr (ended hbg hb))

/-! ### FG's micro-op -/

/-- FG, past a micro-op, writes no refresh register where it wrote none. -/
theorem keepsRefresh_advance {s t : State} {op : MicroOp} (hop : s.fgOp = some op)
    (fg : t.fg = { s.fg with pc := s.fg.pc + 1 }) (h : s.fgRest.all MicroOp.keepsRefresh = true) :
    op.keepsRefresh = true ∧ t.fgRest.all MicroOp.keepsRefresh = true := by
  rw [State.fgRest_of_fgOp hop, List.all_cons, Bool.and_eq_true] at h
  rwa [State.fgRest, fg]

/-- FG's `SET` writes no refresh register, or ends a blocking refresh (41 R89, R91). -/
theorem State.RefreshInv.fgSet {s : State} {ps : List Assign} (h : s.RefreshInv) (active : s.fg.active = true)
    (hop : s.fgOp = some (.assign ps)) :
    (s.fgRest.all MicroOp.keepsRefresh = true ∧ ps.all Assign.keepsRefresh = true)
      ∨ (ps = [.fsm .idle] ∧ s.fg.prog.drop (s.fg.pc + 1) = [.endProg] ∧ s.bg.active = false ∧ s.refresh.fsm ≠ .idle
        ∧ (s.cfg.asyncRuntime = true → s.refresh.fsm = .refreshingPartial)) := by
  rcases h.fgKind active with hk | ⟨hshow, rest⟩
  · exact .inl ⟨hk, (keepsRefresh_advance (t := { s with fg := _ }) hop rfl hk).1⟩
  · obtain ⟨e, htail⟩ := hshow.settles hop rfl
    exact .inr ⟨MicroOp.assign.inj e, htail, rest⟩

/-- A refresh that FG ends had raised no event that is pending still. -/
theorem State.RefreshInv.notPending {s : State} (h : s.RefreshInv)
    (hasync : s.cfg.asyncRuntime = true → s.refresh.fsm = .refreshingPartial) (hu : s.refresh.updated = true) :
    s.refresh.complete = true := by
  cases hr : s.cfg.asyncRuntime with
  | false => rw [(h.blockingNoEvents hr).1] at hu; cases hu
  | true =>
    by_contra hc
    have hfull := h.updatedPending hu (Bool.eq_false_of_not_eq_true hc)
    rw [hasync hr] at hfull
    cases hfull

/-- The laws after the `SET` that ends a blocking refresh. -/
theorem State.RefreshInv.fgSettles {s t : State} (h : s.RefreshInv) (hbg : s.bg.active = false)
    (hasync : s.cfg.asyncRuntime = true → s.refresh.fsm = .refreshingPartial)
    (htail : s.fg.prog.drop (s.fg.pc + 1) = [.endProg]) (cfg : t.cfg = s.cfg)
    (refresh : t.refresh = s.refresh.assignAll [.fsm .idle]) (fg : t.fg = { s.fg with pc := s.fg.pc + 1 })
    (bg : t.bg = s.bg) : t.RefreshInv := by
  have idle : t.refresh.fsm = .idle := by rw [refresh]; rfl
  constructor
  case noSegment => rw [bg]; exact h.noSegment
  case bgPhase => rw [bg, hbg]; exact nofun
  case fgKind => rw [State.fgRest, fg, htail]; exact fun _ => .inl rfl
  case completeUpdated => rw [refresh]; exact h.completeUpdated
  case blockingNoEvents => rw [cfg, refresh]; exact h.blockingNoEvents
  case fullNotComplete => rw [idle]; exact fun _ => nofun
  case updatedPending =>
    rw [refresh]
    exact fun hu hc => absurd ((h.notPending hasync hu).symm.trans hc) (by simp)
  case busyOrStuck => exact fun hb => absurd idle hb

/-- The laws after FG's micro-op. -/
theorem FgEffect.refreshInv {s t : State} {op : MicroOp} (e : FgEffect s t op) (h : s.RefreshInv)
    (active : s.fg.active = true) (hop : s.fgOp = some op) (sticky : s.transportFaulted = true → t.transportFaulted = true) :
    t.RefreshInv := by
  have stopped {p : Prop} (fg : t.fg = { s.fg with active := false }) (ha : t.fg.active = true) : p := by
    rw [fg] at ha; cases ha
  cases e with
  | advances hq q fg bg =>
    refine h.of_bg q.keepsRefresh bg sticky (fun hk _ => ?_) (fun hs => .inl (hs.advance hop hq fg))
    exact (keepsRefresh_advance hop fg (hk.resolve_right (by simp [active]))).2
  | stays q fg bg =>
    refine h.of_bg q.keepsRefresh bg sticky (fun hk _ => ?_) (fun hs => .inl (hs.of_fg fg))
    rw [State.fgRest, fg]
    exact hk.resolve_right (by simp [active])
  | aborts q fg bg fault =>
    exact h.of_bg q.keepsRefresh bg sticky (fun _ => stopped fg) (fun _ => .inr ⟨by rw [fg], fault⟩)
  | ends q fg bg =>
    refine h.of_bg q.keepsRefresh bg sticky (fun _ => stopped fg) (fun hs => ?_)
    cases (hs.settles hop rfl).1
  | sets ps cfg refresh fg bg =>
    rcases h.fgSet active hop with ⟨hk, hps⟩ | ⟨rfl, htail, hbg, -, hasync⟩
    · refine h.of_bg (.of_assignAll hps cfg refresh) bg sticky (fun _ _ => (keepsRefresh_advance hop fg hk).2) (fun hs => ?_)
      rw [hs.not_keepsRefresh] at hk
      cases hk
    · exact h.fgSettles hbg hasync htail cfg refresh fg bg

/-! ### BG's micro-op -/

/-- The laws after BG's `SET`: it raises `UPDATED`, or ends the refresh (42 R102, R103). -/
theorem State.RefreshInv.bgSets {s t : State} {ps : List Assign} (h : s.RefreshInv) (active : s.bg.active = true)
    (hop : s.bgOp = some (.assign ps)) (cfg : t.cfg = s.cfg) (refresh : t.refresh = s.refresh.assignAll ps)
    (fg : t.fg = s.fg) (bg : t.bg = { s.bg with pc := s.bg.pc + 1, inSegment := true }) : t.RefreshInv := by
  obtain ⟨async, phases⟩ := h.bgPhase active
  have stillActive : t.bg.active = true := by rw [bg]; exact active
  have fgKind (ha : t.fg.active = true) : t.fgRest.all MicroOp.keepsRefresh = true := by
    rw [fg] at ha
    rw [State.fgRest, fg]
    exact h.fgKeeps active ha
  have blocking : t.cfg.asyncRuntime ≠ false := by simp [cfg, async]
  rcases State.bgPhases.sets phases hop with ⟨rfl, ⟨hf, -, hc, -⟩, htail⟩ | ⟨rfl, ⟨-, hu, -, -⟩, htail⟩
  · have full : t.refresh.fsm = .refreshingFull := by rw [refresh]; exact hf
    have updated : t.refresh.updated = true := by rw [refresh]; rfl
    have incomplete : t.refresh.complete = false := by rw [refresh]; exact hc
    have rest : t.bgRest = [.waitry, settleOp, .endProg] := by rw [State.bgRest, bg]; exact htail
    exact
      { noSegment := fun ha => by rw [stillActive] at ha; cases ha
        bgPhase := fun _ => ⟨cfg ▸ async, .inr (.inl ⟨full, updated, incomplete, .inl rest⟩)⟩
        fgKind := fun ha => .inl (fgKind ha)
        completeUpdated := fun _ => updated
        blockingNoEvents := fun ha => absurd ha blocking
        fullNotComplete := fun _ _ => incomplete
        updatedPending := fun _ _ => full
        busyOrStuck := fun _ => .inl stillActive }
  · have idle : t.refresh.fsm = .idle := by rw [refresh]; rfl
    have updated : t.refresh.updated = true := by rw [refresh]; exact hu
    have complete : t.refresh.complete = true := by rw [refresh]; rfl
    have rest : t.bgRest = [.endProg] := by rw [State.bgRest, bg]; exact htail
    exact
      { noSegment := fun ha => by rw [stillActive] at ha; cases ha
        bgPhase := fun _ => ⟨cfg ▸ async, .inr (.inr ⟨idle, updated, complete, rest, by rw [bg]⟩)⟩
        fgKind := fun ha => .inl (fgKind ha)
        completeUpdated := fun _ => updated
        blockingNoEvents := fun ha => absurd ha blocking
        fullNotComplete := fun _ hf => by rw [idle] at hf; cases hf
        updatedPending := fun _ hc => by rw [complete] at hc; cases hc
        busyOrStuck := fun hb => absurd idle hb }

/-- The laws after BG's micro-op. -/
theorem BgEffect.refreshInv {s t : State} {op : MicroOp} (e : BgEffect s t op) (h : s.RefreshInv)
    (active : s.bg.active = true) (hop : s.bgOp = some op) : t.RefreshInv := by
  have phases : s.bgPhases := (h.bgPhase active).2
  cases e with
  | advances hq q fg seg bg keeps _ =>
    have contra {p : Prop} (ha : t.bg.active = false) : p := by rw [bg, active] at ha; cases ha
    exact h.of_fg active q.keepsRefresh fg contra (fun _ => phases.advance hop hq q.keepsRefresh bg keeps) contra
  | stays hq q fg seg bg =>
    have contra {p : Prop} (ha : t.bg.active = false) : p := by rw [bg, active] at ha; cases ha
    exact h.of_fg active q.keepsRefresh fg contra (fun _ => phases.stay hop hq q.keepsRefresh bg) contra
  | aborts q fg bg fault =>
    exact h.of_fg active q.keepsRefresh fg (fun _ => by rw [bg]) (fun ha => by rw [bg] at ha; cases ha) (fun _ _ => fault)
  | ends q fg bg =>
    refine h.of_fg active q.keepsRefresh fg (fun _ => by rw [bg]) (fun ha => by rw [bg] at ha; cases ha) (fun _ hb => ?_)
    exact absurd (phases.ends hop).1 hb
  | sets ps cfg refresh fg bg => exact h.bgSets active hop cfg refresh fg bg

/-! ### The acceptance of a host operation -/

/-- While `Idle` and at a yield point there is no BG: it would stand at its `END`, in its segment. -/
theorem State.RefreshInv.no_bg {s : State} (h : s.RefreshInv) (yielded : s.bg.inSegment = false)
    (idle : s.refresh.fsm = .idle) : s.bg.active = false := by
  by_contra hb
  have hf := State.bgPhases.refreshing (h.bgPhase (by simpa using hb)).2 yielded
  rw [idle] at hf
  cases hf

/-- While `Idle`, no event is pending. -/
theorem State.RefreshInv.complete_of_idle {s : State} (h : s.RefreshInv) (idle : s.refresh.fsm = .idle)
    (hu : s.refresh.updated = true) : s.refresh.complete = true := by
  by_contra hc
  have hf := h.updatedPending hu (by simpa using hc)
  rw [idle] at hf
  cases hf

/-- The laws after a `SHOW` that FG runs: `FSM` leaves `Idle`, for `RefreshingFull` only without a cooperative runtime. -/
theorem State.RefreshInv.fgShows {s t : State} {prog : List MicroOp} {f : Fsm} (h : s.RefreshInv)
    (yielded : s.bg.inSegment = false) (idle : s.refresh.fsm = .idle) (hf : f ≠ .idle)
    (hasync : s.cfg.asyncRuntime = true → f = .refreshingPartial)
    (split : ∃ pre, prog = pre ++ blockingTail ∧ pre.all MicroOp.quiet = true)
    (cfg : t.cfg = s.cfg) (refresh : t.refresh = { s.refresh with fsm := f }) (fg : t.fg = startedFg 0x4 prog)
    (bg : t.bg = s.bg) : t.RefreshInv := by
  have noBg := h.no_bg yielded idle
  have showing := State.fgShowing_startedFg fg split
  constructor
  case noSegment => rw [bg]; exact h.noSegment
  case bgPhase => rw [bg, noBg]; exact nofun
  case fgKind => rw [bg, refresh, cfg]; exact fun _ => .inr ⟨showing, noBg, hf, hasync⟩
  case completeUpdated => rw [refresh]; exact h.completeUpdated
  case blockingNoEvents => rw [cfg, refresh]; exact h.blockingNoEvents
  case fullNotComplete =>
    rw [cfg, refresh]
    intro ha hfull
    cases (hasync ha).symm.trans hfull
  case updatedPending =>
    rw [refresh]
    exact fun hu hc => absurd ((h.complete_of_idle idle hu).symm.trans hc) (by simp)
  case busyOrStuck => exact fun _ => .inr (.inl showing)

/-- The laws after a `SHOW` that starts BG. -/
theorem State.RefreshInv.bgShows {s t : State} (async : s.cfg.asyncRuntime = true) (hfg : s.fg.active = false)
    (cfg : t.cfg = s.cfg)
    (refresh : t.refresh =
      { s.refresh with fsm := .refreshingFull, updated := false, complete := false, resultCode := .ok })
    (fg : t.fg = s.fg) (bg : t.bg = startedBg s.cfg.pFullAsync) : t.RefreshInv := by
  have full : t.refresh.fsm = .refreshingFull := by rw [refresh]
  have noUpdate : t.refresh.updated = false := by rw [refresh]
  have incomplete : t.refresh.complete = false := by rw [refresh]
  have rest : t.bgRest = s.cfg.pFullAsync := by rw [State.bgRest, bg]; rfl
  exact
    { noSegment := fun _ => by rw [bg]; rfl
      bgPhase := fun _ => ⟨cfg ▸ async, .inl ⟨full, noUpdate, incomplete, rest ▸ s.cfg.pFullAsync_split⟩⟩
      fgKind := fun ha => by rw [fg, hfg] at ha; cases ha
      completeUpdated := fun hc => by rw [incomplete] at hc; cases hc
      blockingNoEvents := fun _ => ⟨noUpdate, incomplete⟩
      fullNotComplete := fun _ _ => incomplete
      updatedPending := fun _ _ => full
      busyOrStuck := fun _ => .inl (by rw [bg]; rfl) }

/-- The laws after the acceptance of a host operation. -/
theorem AcceptEffect.refreshInv {s t : State} {i : Instr} (e : AcceptEffect s t i) (h : s.RefreshInv)
    (hfg : s.fg.active = false) (yielded : s.bg.inSegment = false)
    (sticky : s.transportFaulted = true → t.transportFaulted = true) : t.RefreshInv := by
  have same (k : KeepsRefresh s t) (fg : t.fg = s.fg) (bg : t.bg = s.bg) : t.RefreshInv := h.of_same k fg bg sticky
  cases e with
  | finishes q fg bg => exact same q.keepsRefresh fg bg
  | selects _ k fg bg => exact same k fg bg
  | starts op prog _ _ keeps q fg bg =>
    refine h.of_bg q.keepsRefresh bg sticky (fun _ _ => by rwa [State.fgRest_startedFg fg]) (fun hs => ?_)
    rw [hs.1] at hfg
    cases hfg
  | showsBlocking idle _ blocking cfg refresh fg bg =>
    exact h.fgShows yielded idle (by simp) (by simp [blocking]) s.cfg.pFullBlk_split cfg refresh fg bg
  | showsPartial idle _ cfg refresh fg bg =>
    exact h.fgShows yielded idle (by simp) (fun _ => rfl) s.cfg.pPart_split cfg refresh fg bg
  | showsAsync _ _ async cfg refresh fg bg _ => exact .bgShows async hfg cfg refresh fg bg

/-! ### The machine -/

/-- `F_TRANSPORT` is sticky (10 R19). -/
theorem StickyStep.transportFaulted {s t : State} (h : StickyStep s t) (hs : s.transportFaulted = true) :
    t.transportFaulted = true := by
  unfold State.transportFaulted at hs ⊢
  rcases h.fault with e | ⟨b, -, e⟩ <;> rw [e]
  · exact hs
  · rw [BitVec.getLsbD_or, hs, Bool.true_or]

theorem State.atReset_refreshInv (c : Cfg) (b d m : Bool) (n : Nat) (e : Env) :
    (State.atReset c b d m n e).RefreshInv where
  noSegment := fun _ => rfl
  bgPhase := nofun
  fgKind := fun _ => .inl c.pConstruct_keepsRefresh
  completeUpdated := nofun
  blockingNoEvents := fun _ => ⟨rfl, rfl⟩
  fullNotComplete := fun _ => nofun
  updatedPending := nofun
  busyOrStuck := fun h => absurd rfl h

theorem step_refreshInv {s t : State} (h : s.RefreshInv) (hs : step s = .next t) : t.RefreshInv := by
  have sticky (turn : s.nextTurn ≠ .blockReset) := (step_sticky hs turn).transportFaulted
  cases step_control hs with
  | blockReset _ eq => rw [eq]; exact State.atReset_refreshInv ..
  | rests turn q fg bg => exact h.of_same q.keepsRefresh fg bg (sticky turn)
  | accepts i turn _ hfg yielded e => exact e.refreshInv h hfg yielded (sticky (by simp [turn]))
  | foreground op turn _ active _ fetched e => exact e.refreshInv h active fetched (sticky (by simp [turn]))
  | background op _ _ active fetched e => exact e.refreshInv h active fetched

/-- Settles O52: block reset meets the laws, and each of the other relations of `ControlStep` keeps them. -/
theorem refreshInvariantKept : Obligations.RefreshInvariantKept := fun _ _ => step_refreshInv

/-! ### Which steps change `FSM` (41 R83) -/

/-- An accepted operation that changes `FSM` is a `SHOW`, to the state of the mode. -/
theorem AcceptEffect.fsm_changed {s t : State} {i : Instr} (e : AcceptEffect s t i)
    (hne : t.refresh.fsm ≠ s.refresh.fsm) :
    s.refresh.fsm = .idle ∧ i = .showRefresh
      ∧ t.refresh.fsm = match s.refresh.mode with
        | .fullMode => .refreshingFull
        | .partialMode => .refreshingPartial := by
  cases e with
  | finishes q => exact absurd q.fsm hne
  | selects _ k => exact absurd k.fsm hne
  | starts _ _ _ _ _ q => exact absurd q.fsm hne
  | showsBlocking idle hmode _ _ refresh => exact ⟨idle, rfl, by rw [refresh, hmode]⟩
  | showsPartial idle hmode _ refresh => exact ⟨idle, rfl, by rw [refresh, hmode]⟩
  | showsAsync idle hmode _ _ refresh => exact ⟨idle, rfl, by rw [refresh, hmode]⟩

/-- A micro-op of FG that changes `FSM` is the `SET` that ends a blocking refresh. -/
theorem FgEffect.fsm_changed {s t : State} {op : MicroOp} (e : FgEffect s t op) (h : s.RefreshInv)
    (active : s.fg.active = true) (hop : s.fgOp = some op) (hne : t.refresh.fsm ≠ s.refresh.fsm) :
    op = .assign [.fsm .idle] ∧ t.refresh.fsm = .idle := by
  cases e with
  | advances _ q | stays q | aborts q | ends q => exact absurd q.fsm hne
  | sets ps cfg refresh =>
    rcases h.fgSet active hop with ⟨-, hps⟩ | ⟨rfl, -⟩
    · exact absurd (KeepsRefresh.of_assignAll hps cfg refresh).fsm hne
    · exact ⟨rfl, by rw [refresh]; rfl⟩

/-- A micro-op of BG that changes `FSM` is the `SET` that ends an asynchronous refresh. -/
theorem BgEffect.fsm_changed {s t : State} {op : MicroOp} (e : BgEffect s t op) (h : s.RefreshInv)
    (active : s.bg.active = true) (hop : s.bgOp = some op) (hne : t.refresh.fsm ≠ s.refresh.fsm) :
    op = .assign [.fsm .idle, .complete true] ∧ t.refresh.fsm = .idle := by
  cases e with
  | advances _ q | stays _ q | aborts q | ends q => exact absurd q.fsm hne
  | sets ps cfg refresh =>
    rcases State.bgPhases.sets (h.bgPhase active).2 hop with ⟨rfl, -⟩ | ⟨rfl, -⟩
    · exact absurd (congrArg Refresh.fsm refresh) hne
    · exact ⟨rfl, by rw [refresh]; rfl⟩

/-- Settles O56: of the relations of `ControlStep`, only an acceptance and a micro-op can change `FSM`, and each only in
the one way that the laws leave it. -/
theorem refreshTransitions : Obligations.RefreshTransitions := by
  intro s t h hs notReset hne
  cases step_control hs with
  | blockReset turn => exact absurd turn notReset
  | rests _ q => exact absurd q.fsm hne
  | accepts i _ runs _ _ e =>
    obtain ⟨idle, rfl, hfsm⟩ := e.fsm_changed hne
    exact .inl ⟨idle, runs, hfsm⟩
  | foreground op turn runs active _ fetched e =>
    obtain ⟨rfl, hfsm⟩ := e.fsm_changed h active fetched hne
    exact .inr ⟨hfsm, .inl ⟨turn, runs⟩⟩
  | background op turn runs active fetched e =>
    obtain ⟨rfl, hfsm⟩ := e.fsm_changed h active fetched hne
    exact .inr ⟨hfsm, .inr ⟨turn, runs⟩⟩

end Sys2Proof.Machine
end

section
/-! Which steps change `MODE` (10 R25, 41 R94): only a mode selection and a `SET` that lists it, and of the machine's
programs only `P_INIT` and `P_CONSTRUCT` hold one. -/

namespace Sys2Proof.Machine

/-- A pair of a `SET` that does not write `MODE`. -/
def keepsMode : Assign → Bool
  | .mode _ => false
  | .fsm _ | .updated _ | .complete _ | .monAsleep _ | .monFullCfgValid _ => true

/-- A micro-op that is no `SET` listing `MODE`. -/
def opKeepsMode : MicroOp → Bool
  | .assign ps => ps.all keepsMode
  | .endProg | .cmd _ _ | .data _ _ _ | .row _ _ | .rstp | .waitr | .waitry | .yieldPoint | .havocFb => true

theorem mode_notMem_of_keepsMode {ps : List Assign} (h : opKeepsMode (.assign ps) = true) (v : Mode) :
    Assign.mode v ∉ ps := by
  intro hv
  cases List.all_eq_true.mp h _ hv

theorem group_keepsMode (c : Cfg) (g : GroupName) : (c.group g).all opKeepsMode = true :=
  c.group_forall (fun _ _ => rfl) (fun _ _ _ => rfl) g

theorem rows_keepsMode (c : Cfg) (reg : Byte) (src : RowSrc) (ctx : Ctx) : (c.rows reg src ctx).all opKeepsMode = true :=
  c.rows_forall (fun _ _ => rfl) (fun _ _ _ => rfl) rfl reg src ctx

theorem pFullBlk_keepsMode (c : Cfg) : c.pFullBlk.all opKeepsMode = true := by
  simp only [Cfg.pFullBlk, List.all_append, rows_keepsMode, group_keepsMode]; rfl

theorem pFullAsync_keepsMode (c : Cfg) : c.pFullAsync.all opKeepsMode = true := by
  simp only [Cfg.pFullAsync, List.all_append, rows_keepsMode, group_keepsMode]; rfl

theorem pPart_keepsMode (c : Cfg) : c.pPart.all opKeepsMode = true := by
  simp only [Cfg.pPart, List.all_append, rows_keepsMode, group_keepsMode]; rfl

theorem pClear_keepsMode (c : Cfg) : c.pClear.all opKeepsMode = true := by
  simp only [Cfg.pClear, Cfg.clearBody, List.all_append, rows_keepsMode]; rfl

theorem pSleep_keepsMode (c : Cfg) : c.pSleep.all opKeepsMode = true := by
  simp only [Cfg.pSleep, List.all_append, group_keepsMode]; rfl

theorem pReset_keepsMode : pReset.all opKeepsMode = true := rfl

theorem pWait_keepsMode : pWait.all opKeepsMode = true := rfl

/-- The programs of the operations other than `INIT_FULL` and construction write no mode. -/
theorem expandsTo_keepsMode {c : Cfg} {op : OpId} {prog : List MicroOp} (h : expandsTo c op prog = true)
    (hinit : op ≠ .host 0x1) (hcon : op ≠ .construct) : prog.all opKeepsMode = true := by
  cases op with
  | construct => exact absurd rfl hcon
  | host o =>
    have ho : o.toNat ≠ 1 := fun e => hinit (congrArg OpId.host (BitVec.eq_of_toNat_eq e))
    simp only [expandsTo] at h
    split at h
    case h_1 e => exact absurd e ho
    case h_2 =>
      simp only [Bool.or_eq_true, Bool.and_eq_true, beq_iff_eq] at h
      rcases h with ⟨-, rfl⟩ | rfl
      · exact pFullBlk_keepsMode c
      · exact pPart_keepsMode c
    case h_3 => rw [eq_of_beq h]; exact pClear_keepsMode c
    case h_4 => rw [eq_of_beq h]; exact pSleep_keepsMode c
    case h_5 => rw [eq_of_beq h]; exact pReset_keepsMode
    case h_6 => rw [eq_of_beq h]; exact pWait_keepsMode
    case h_7 => cases h

/-- An accepted operation that changes the mode is a mode selection. -/
theorem AcceptEffect.mode_changed {s t : State} {i : Instr} (e : AcceptEffect s t i)
    (hne : t.refresh.mode ≠ s.refresh.mode) : i = .selectFull ∨ i = .selectPartial := by
  cases e with
  | selects hi => exact hi
  | finishes q => exact absurd q.mode hne
  | starts _ _ _ _ _ q => exact absurd q.mode hne
  | showsBlocking _ _ _ _ refresh | showsPartial _ _ _ refresh | showsAsync _ _ _ _ refresh =>
    exact absurd (congrArg Refresh.mode refresh) hne

/-- A micro-op of FG that changes the mode is a `SET` that lists it. -/
theorem FgEffect.mode_changed {s t : State} {op : MicroOp} (e : FgEffect s t op)
    (hne : t.refresh.mode ≠ s.refresh.mode) : ∃ ps v, op = .assign ps ∧ .mode v ∈ ps := by
  cases e with
  | advances _ q | stays q | aborts q | ends q => exact absurd q.mode hne
  | sets ps _ refresh =>
    rw [refresh] at hne
    obtain ⟨v, hv⟩ := Refresh.mode_mem_of_assignAll hne
    exact ⟨ps, v, rfl, hv⟩

/-- A micro-op of BG that changes the mode is a `SET` that lists it. -/
theorem BgEffect.mode_changed {s t : State} {op : MicroOp} (e : BgEffect s t op)
    (hne : t.refresh.mode ≠ s.refresh.mode) : ∃ ps v, op = .assign ps ∧ .mode v ∈ ps := by
  cases e with
  | advances _ q | stays _ q | aborts q | ends q => exact absurd q.mode hne
  | sets ps _ refresh =>
    rw [refresh] at hne
    obtain ⟨v, hv⟩ := Refresh.mode_mem_of_assignAll hne
    exact ⟨ps, v, rfl, hv⟩

/-- A step that changes the mode is block reset, a mode selection, or a context's `SET` that lists it. -/
theorem step_mode_changed {s t : State} (hs : step s = .next t) (hne : t.refresh.mode ≠ s.refresh.mode) :
    s.nextTurn = .blockReset ∨ s.executes = some .selectFull ∨ s.executes = some .selectPartial
      ∨ ∃ ps v, s.executes = some (.uopSet ps) ∧ .mode v ∈ ps
        ∧ (s.nextTurn = .fg ∧ s.fg.active = true ∧ .assign ps ∈ s.fg.prog
          ∨ s.bg.active = true ∧ .assign ps ∈ s.bg.prog) := by
  cases step_control hs with
  | blockReset turn => exact .inl turn
  | rests _ q => exact absurd q.mode hne
  | accepts i _ runs _ _ e =>
    rcases e.mode_changed hne with rfl | rfl
    · exact .inr (.inl runs)
    · exact .inr (.inr (.inl runs))
  | foreground op turn runs active _ fetched e =>
    obtain ⟨ps, v, rfl, hv⟩ := e.mode_changed hne
    exact .inr (.inr (.inr ⟨ps, v, runs, hv, .inl ⟨turn, active, List.mem_of_getElem? fetched⟩⟩))
  | background op _ runs active fetched e =>
    obtain ⟨ps, v, rfl, hv⟩ := e.mode_changed hne
    exact .inr (.inr (.inr ⟨ps, v, runs, hv, .inr ⟨active, List.mem_of_getElem? fetched⟩⟩))

/-- Where the contexts run the programs of their operations, the `SET` is FG's, in `INIT_FULL` or construction. -/
theorem step_mode_changed_of_ownPrograms {s t : State} (h : s.ownPrograms = true) (hs : step s = .next t)
    (hne : t.refresh.mode ≠ s.refresh.mode) :
    s.nextTurn = .blockReset ∨ s.executes = some .selectFull ∨ s.executes = some .selectPartial
      ∨ s.nextTurn = .fg ∧ (s.fg.op = .host 0x1 ∨ s.fg.op = .construct) := by
  obtain ⟨hfg, hbg⟩ := s.ownPrograms_iff.mp h
  rcases step_mode_changed hs hne with h1 | h1 | h1 | ⟨ps, v, -, hv, ⟨turn, active, hmem⟩ | ⟨active, hmem⟩⟩
  · exact .inl h1
  · exact .inr (.inl h1)
  · exact .inr (.inr (.inl h1))
  · refine .inr (.inr (.inr ⟨turn, ?_⟩))
    by_contra hop
    obtain ⟨hinit, hcon⟩ := not_or.mp hop
    exact mode_notMem_of_keepsMode (List.all_eq_true.mp (expandsTo_keepsMode (hfg active) hinit hcon) _ hmem) v hv
  · rw [(hbg active).2] at hmem
    exact absurd hv (mode_notMem_of_keepsMode (List.all_eq_true.mp (pFullAsync_keepsMode _) _ hmem) v)

/-- Settles O45: the steps that change the mode from `ControlStep`, the programs by what each of them holds. -/
theorem onlyModeSelectionWritesMode : Obligations.OnlyModeSelectionWritesMode := by
  refine ⟨fun s t hs hne => ?_, fun c ps v hmem => ?_, fun s t => step_mode_changed_of_ownPrograms⟩
  · rcases step_mode_changed hs hne with h | h | h | ⟨ps, v, runs, hv, -⟩
    · exact .inl h
    · exact .inr (.inl h)
    · exact .inr (.inr (.inl h))
    · exact .inr (.inr (.inr ⟨ps, v, runs, hv⟩))
  · have keeps : (c.pFullBlk ++ c.pFullAsync ++ c.pPart ++ c.pClear ++ c.pSleep ++ pReset ++ pWait).all opKeepsMode = true := by
      simp only [List.all_append, pFullBlk_keepsMode, pFullAsync_keepsMode, pPart_keepsMode, pClear_keepsMode,
        pSleep_keepsMode, pReset_keepsMode, pWait_keepsMode, Bool.and_self]
    exact mode_notMem_of_keepsMode (List.all_eq_true.mp keeps _ hmem) v

end Sys2Proof.Machine
end

section
/-! What every step keeps of the data (10 R19, R32, R35, 43 R116): the buffer's canonical form and bounds, the reserved
bits of `FAULT`, the rest levels of the pins. -/

namespace Sys2Proof.Machine

/-- How an operation leaves the buffer: as it was, drawn anew, filled, or with one byte inside it written. -/
inductive BufferStep (c : Cfg) (fb : Memory) : Memory → Prop
  | same : BufferStep c fb fb
  | drawn : BufferStep c fb []
  | filled (v : Byte) : BufferStep c fb (Memory.filled c.fbSize v)
  | written (a : Nat) (v : Byte) (h : a < c.fbSize) : BufferStep c fb (Memory.write fb a v)

/-- How an operation leaves the pins: as they were, after a frame, or after a pulse (40 R66, R75). -/
inductive PinsStep (c : Cfg) (p : Pins) : Pins → Prop
  | same : PinsStep c p p
  | framed (k : FrameKind) (bs : List Byte) : PinsStep c p (p.afterFrame c k bs)
  | pulsed : PinsStep c p (p.afterPulse c)

/-- How an operation leaves the buffer and the pins. -/
structure DataStep (s t : State) : Prop where
  fb : BufferStep s.cfg s.fb t.fb
  pins : PinsStep s.cfg s.pins t.pins

/-! ### The invariant after each -/

theorem State.fbInv_iff (s : State) : s.fbInv = true ↔ Memory.wf s.fb = true ∧ Memory.below s.cfg.fbSize s.fb = true := by
  simp [State.fbInv]

theorem BufferStep.fbInv {s t : State} (h : BufferStep s.cfg s.fb t.fb) (cfg : t.cfg = s.cfg) (hs : s.fbInv = true) :
    t.fbInv = true := by
  rw [State.fbInv_iff] at hs ⊢
  rw [cfg]
  generalize t.fb = m at h ⊢
  cases h with
  | same => exact hs
  | drawn => exact ⟨rfl, rfl⟩
  | filled v => exact ⟨Memory.wf_filled _ v, Memory.below_filled _ v⟩
  | written a v ha => exact ⟨Memory.wf_write a v hs.1, Memory.below_write ha v hs.2⟩

theorem PinsStep.pinsInv {s t : State} (h : PinsStep s.cfg s.pins t.pins) (cfg : t.cfg = s.cfg) (hs : s.pinsInv = true) :
    t.pinsInv = true := by
  unfold State.pinsInv at hs ⊢
  simp only [Bool.and_eq_true, beq_iff_eq] at hs ⊢
  rw [cfg]
  generalize t.pins = p at h ⊢
  cases h with
  | same => exact hs
  | framed k bs => exact ⟨⟨rfl, hs.1.2⟩, rfl⟩
  | pulsed => exact ⟨⟨hs.1.1, rfl⟩, hs.2⟩

/-- None of the four bits of `FAULT` is reserved (10 R19). -/
theorem shiftLeft_and_reserved {b : Nat} (h : b < 4) : (1#32 <<< b) &&& 0xFFFFFFF0#32 = 0#32 := by
  have : ∀ b : Fin 4, (1#32 <<< b.val) &&& 0xFFFFFFF0#32 = 0#32 := by decide
  exact this ⟨b, h⟩

theorem FaultKept.reserved {f g : Word} (h : FaultKept f g) (hf : f &&& 0xFFFFFFF0#32 = 0#32) :
    g &&& 0xFFFFFFF0#32 = 0#32 := by
  rcases h with rfl | ⟨b, hb, rfl⟩
  · exact hf
  · rw [BitVec.and_comm, BitVec.and_or_distrib_left, BitVec.and_comm, hf, BitVec.and_comm, shiftLeft_and_reserved hb,
      BitVec.or_self]

theorem State.dataInv_iff (s : State) : s.dataInv = true ↔ s.fbInv = true ∧ s.faultReserved = true ∧ s.pinsInv = true := by
  simp [State.dataInv, and_assoc]

/-! ### The shared operations -/

theorem DataStep.of_same {s t : State} (fb : t.fb = s.fb) (pins : t.pins = s.pins) : DataStep s t :=
  ⟨fb ▸ .same, pins ▸ .same⟩

/-- A data step seen from a state with the same configuration, buffer and pins. -/
theorem DataStep.of_agree {s r t : State} (h : DataStep r t) (cfg : r.cfg = s.cfg) (fb : r.fb = s.fb)
    (pins : r.pins = s.pins) : DataStep s t := by
  obtain ⟨hfb, hpins⟩ := h
  exact ⟨cfg ▸ fb ▸ hfb, cfg ▸ pins ▸ hpins⟩

theorem State.frameSent_data (s : State) (k : FrameKind) (bs : List Byte) (bi : Bool) : DataStep s (s.frameSent k bs bi) :=
  ⟨by rw [State.frameSent_fb]; exact .same, by rw [State.frameSent_pins]; exact .framed k bs⟩

theorem State.frameFailed_data (s : State) (k : FrameKind) (bs : List Byte) : DataStep s (s.frameFailed k bs) :=
  ⟨by rw [State.frameFailed_fb]; exact .same, by rw [State.frameFailed_pins]; exact .framed k bs⟩

theorem DataStep.advance {s t : State} (h : DataStep s t) : DataStep s t.advance :=
  ⟨by rw [State.advance_fb]; exact h.fb, by rw [State.advance_pins]; exact h.pins⟩

theorem State.emitOp_data (s : State) (k : FrameKind) (bs : List Byte) (bi : Bool) : DataStep s (s.emitOp k bs bi) := by
  rcases s.emitOp_cases k bs bi with ⟨-, e⟩ | ⟨-, e⟩ <;> rw [e]
  · exact (s.frameSent_data k bs bi).advance
  · exact s.frameFailed_data k bs

theorem State.requireIdle_data {s t : State} (op : BitVec 4) (fb : t.fb = s.fb) (pins : t.pins = s.pins) :
    DataStep s (s.requireIdle op t) := by
  unfold State.requireIdle
  split
  · exact .of_same rfl rfl
  · exact .of_same fb pins

/-- An operation of the frame buffer writes inside it, if its operands are in range. -/
theorem State.ifInRange_data {s t : State} (op : BitVec 4) {inRange : Bool} (h : inRange = true → DataStep s t) :
    DataStep s (s.ifInRange op inRange t) := by
  unfold State.ifInRange
  split
  · next hr => exact ⟨(h hr).fb, (h hr).pins⟩
  · exact .of_same rfl rfl

theorem State.putPixel_data (s : State) {x y : Nat} (v : Bool) (h : s.pixelInRange x y = true) :
    DataStep s (s.putPixel x y v) := by
  simp only [State.pixelInRange, Bool.and_eq_true, decide_eq_true_eq] at h
  exact ⟨.written _ _ (Cfg.pixelAddr_lt_fbSize h.1 h.2), .same⟩

theorem State.memWrite_data (s : State) {i : Nat} (v : Byte) (h : s.byteInRange i = true) : DataStep s (s.memWrite i v) :=
  ⟨.written _ _ (of_decide_eq_true h), .same⟩

/-! ### The agents -/

/-- What a micro-op leaves of the data. -/
theorem exec_microOp_data {op : MicroOp} {s t : State} (he : exec op.toInstr s = .next t) : DataStep s t := by
  cases op with
  | endProg => cases he; exact .of_same (by simp) (by simp)
  | cmd | data => cases he; exact s.emitOp_data _ _ _
  | row src r =>
    cases src with
    | blank => cases he; exact s.emitOp_data _ _ _
    | fb =>
      simp only [MicroOp.toInstr, exec, execUopRow] at he
      split at he
      · cases he; exact s.emitOp_data _ _ _
      · cases he
  | rstp =>
    cases he
    refine DataStep.advance ⟨?_, ?_⟩
    · rw [State.pulse_fb]; exact .same
    · rw [State.pulse_pins]; exact .pulsed
  | waitr | waitry =>
    cases he
    split <;> exact .of_same (by simp) (by simp)
  | yieldPoint =>
    cases he
    split <;> exact .of_same (by simp) (by simp)
  | assign ps =>
    cases he
    obtain ⟨-, -, -, -, hfb, -, hpins, -⟩ := s.assignAll_frame ps
    exact (DataStep.of_same hfb hpins).advance
  | havocFb =>
    cases he
    exact DataStep.advance ⟨.drawn, .same⟩

theorem execShow_data {s t : State} (he : execShow s = .next t) : DataStep s t := by
  cases he
  split
  · exact .of_same rfl rfl
  · split
    · split <;> exact .of_same rfl rfl
    · exact .of_same rfl rfl

/-- What the operation of a `CMD` word leaves of the data. -/
theorem exec_host_data {i : Instr} {s t : State} (hi : (encode i).1 = .hostWord) (he : exec i s = .next t) :
    DataStep s t := by
  cases i with
  | initFull | selectFull | clear | sleep => cases he; exact State.requireIdle_data _ rfl rfl
  | selectPartial =>
    cases he
    refine State.requireIdle_data _ ?_ ?_ <;> split <;> rfl
  | showRefresh => exact execShow_data he
  | reset | waitReady | reservedOp0 | reservedOpE | reservedOpF | reservedHighBits => cases he; exact .of_same rfl rfl
  | setPixel => cases he; exact State.ifInRange_data _ (s.putPixel_data _)
  | getPixel | readByte => cases he; exact State.ifInRange_data _ fun _ => .of_same rfl rfl
  | fill => cases he; exact ⟨.filled _, .same⟩
  | writeByte => cases he; exact State.ifInRange_data _ (s.memWrite_data _)
  | _ => cases hi

theorem State.hostRead_data (s : State) (off : Word) : DataStep s (s.hostRead off) := by
  have h : DataStep s (s.afterRead off) := by
    unfold State.afterRead
    split
    · exact .of_same (by simp) (by simp)
    · split <;> exact .of_same rfl rfl
  exact ⟨h.fb, h.pins⟩

theorem State.hostWrite_data (s : State) (off v : Word) : DataStep s (s.hostWrite off v) := by
  unfold State.hostWrite
  split
  · exact .of_same rfl rfl
  · split
    · exact .of_same rfl rfl
    · split <;> exact .of_same rfl rfl

theorem hostStep_data {s t : State} (h : hostStep s = .next t) : DataStep s t := by
  rcases hostStep_next h with rfl | ⟨_, off, _, -, rfl⟩ | ⟨bit, want, _, -, rfl⟩ | ⟨_, off, v, _, -, -, rfl⟩
    | ⟨_, v, _, -, -, he⟩
  · exact .of_same rfl rfl
  · exact (s.popAccess.hostRead_data off).of_agree rfl rfl rfl
  · obtain ⟨hfb, hpins⟩ := s.hostRead_data offStatus
    unfold State.pollOnce
    split <;> exact ⟨hfb, hpins⟩
  · exact (s.popAccess.hostWrite_data off v).of_agree rfl rfl rfl
  · exact (exec_host_data (decodeHostWord_space v) he).of_agree rfl rfl rfl

theorem stepAs_data {turn : Turn} (ht : turn ≠ .blockReset) {s t : State} (h : stepAs turn s = .next t) : DataStep s t := by
  cases turn with
  | host => exact hostStep_data h
  | fg =>
    rcases fgStep_next h with ⟨-, rfl⟩ | ⟨-, op, -, he⟩
    · exact .of_same rfl rfl
    · exact (exec_microOp_data he).of_agree rfl rfl rfl
  | bg =>
    rcases bgStep_next h with ⟨-, rfl⟩ | ⟨-, op, -, he⟩
    · exact .of_same rfl rfl
    · exact (exec_microOp_data he).of_agree rfl rfl rfl
  | panelRise | panelFall | panelNone => cases h; exact .of_same rfl rfl
  | blockReset => exact absurd rfl ht

/-! ### The machine -/

theorem State.atReset_dataInv (c : Cfg) (b d m : Bool) (n : Nat) (e : Env) :
    (State.atReset c b d m n e).dataInv = true := by
  simp [State.dataInv_iff, State.fbInv_iff, State.faultReserved, State.pinsInv, State.atReset, Memory.wf, Memory.wfFrom,
    Memory.below]

theorem step_dataInv {s t : State} (h : s.dataInv = true) (hs : step s = .next t) : t.dataInv = true := by
  by_cases turn : s.nextTurn = .blockReset
  · rw [step_blockReset hs turn]
    exact State.atReset_dataInv ..
  · obtain ⟨-, -, ha⟩ := step_next hs
    obtain ⟨hfb, hpins⟩ := (stepAs_data turn ha).of_agree s.afterTurn_cfg s.afterTurn_fb s.afterTurn_pins
    obtain ⟨cfg, fault, -, -⟩ := step_sticky hs turn
    rw [State.dataInv_iff] at h ⊢
    refine ⟨hfb.fbInv cfg h.1, ?_, hpins.pinsInv cfg h.2.2⟩
    exact beq_iff_eq.mpr (fault.reserved (eq_of_beq h.2.1))

/-- Settles O50: every operation leaves the buffer and the pins in one of a few ways, each of which keeps the
invariant; `FAULT` gains only its four bits. -/
theorem dataInvariantKept : Obligations.DataInvariantKept := fun _ _ => step_dataInv

end Sys2Proof.Machine
end

section
/-! The register views (10 R17, R20, R21), the host's reads and writes of the window (10 R14 to R22), and the machine
right after reset (10 R38). -/

namespace Sys2Proof.Machine

/-! ### `STATUS`, `GEOM`, `CONFIG` -/

theorem State.busy_iff (s : State) : s.busy = true ↔ s.refresh.fsm ≠ .idle := by simp [State.busy]

theorem State.ready_iff (s : State) (b : Bool) : s.ready b = true ↔ s.refresh.fsm = .idle ∧ b = false := by
  simp [State.ready, State.busy]

theorem State.faulted_iff (s : State) : s.faulted = true ↔ s.regs.fault ≠ 0 := by simp [State.faulted]

theorem modeCode_eq_one_iff (m : Mode) : (modeCode m).getLsbD 0 = true ↔ m = .partialMode := by
  cases m <;> simp [modeCode]

/-- The one-bit fields of `STATUS` stand at the bits of 10 R17's table. -/
theorem State.statusWord_bits (s : State) (b : Bool) :
    (s.statusWord b).getLsbD 0 = s.busy ∧ (s.statusWord b).getLsbD 1 = s.ready b
      ∧ (s.statusWord b).getLsbD 2 = (modeCode s.refresh.mode).getLsbD 0
      ∧ (s.statusWord b).getLsbD 5 = s.refresh.updated ∧ (s.statusWord b).getLsbD 6 = s.refresh.complete
      ∧ (s.statusWord b).getLsbD 7 = s.accept ∧ (s.statusWord b).getLsbD 11 = s.bg.active
      ∧ (s.statusWord b).getLsbD 12 = s.bg.err ∧ (s.statusWord b).getLsbD 13 = s.faulted := by
  simp only [State.statusWord, BitVec.getLsbD_append]
  simp

/-- The longer fields of `STATUS`, with the bits above them. -/
theorem State.statusWord_fields (s : State) (b : Bool) :
    (s.statusWord b).extractLsb' 3 2 = fsmCode s.refresh.fsm
      ∧ (s.statusWord b).extractLsb' 8 3 = resultCodeBits s.refresh.resultCode
      ∧ (s.statusWord b).extractLsb' 14 18 = 0#18 := by
  simp (disch := decide) only [State.statusWord, BitVec.extractLsb'_append_eq_of_le,
    BitVec.extractLsb'_append_eq_of_add_le]
  simp

/-- Settles O10: each field of the word is the state's, and each of these says what 10 R17's table does. -/
theorem statusFields : Obligations.StatusFields := by
  intro s b
  obtain ⟨h0, h1, h2, h5, h6, h7, h11, h12, h13⟩ := s.statusWord_bits b
  obtain ⟨hfsm, hcode, hzero⟩ := s.statusWord_fields b
  refine ⟨h0 ▸ s.busy_iff, h1 ▸ s.ready_iff b, h2 ▸ modeCode_eq_one_iff _, ?_, h5, h6, h7 ▸ s.accept_iff, ?_, h11, h12,
    h13 ▸ s.faulted_iff, hzero⟩
  · rw [hfsm]; cases s.refresh.fsm <;> rfl
  · rw [hcode]; cases s.refresh.resultCode <;> rfl

theorem geomWord_fields (c : Cfg) :
    (geomWord c).extractLsb' 0 16 = BitVec.ofNat 16 c.width ∧ (geomWord c).extractLsb' 16 16 = BitVec.ofNat 16 c.height := by
  simp (disch := decide) only [geomWord, BitVec.extractLsb'_append_eq_of_le, BitVec.extractLsb'_append_eq_of_add_le]
  simp

theorem configWord_fields (c : Cfg) :
    (configWord c).getLsbD 0 = c.asyncRuntime ∧ (configWord c).getLsbD 1 = c.partialSupported
      ∧ (configWord c).getLsbD 2 = c.initPartial ∧ (configWord c).extractLsb' 3 13 = 0#13
      ∧ (configWord c).extractLsb' 16 16 = BitVec.ofNat 16 c.yieldBatch := by
  simp (disch := decide) only [configWord, BitVec.getLsbD_append, BitVec.extractLsb'_append_eq_of_le,
    BitVec.extractLsb'_append_eq_of_add_le]
  simp

/-- WF2 of 00 R6. -/
theorem yieldBatch_le_height {c : Cfg} (h : c.wf = true) : c.yieldBatch ≤ c.height := by
  simp only [Cfg.wf, Bool.and_eq_true, decide_eq_true_eq] at h
  obtain ⟨⟨⟨⟨⟨-, -, hb⟩, -⟩, -⟩, -⟩, -⟩ := h
  exact hb

/-- Settles O11: no step changes the configuration, and its fields fit their bits by 00 R6. -/
theorem geomAndConfigFields : Obligations.GeomAndConfigFields := by
  refine ⟨fun s t hs => by rw [step_cfg hs]; exact ⟨rfl, rfl⟩, fun c h => ?_⟩
  obtain ⟨-, hw, -, hh⟩ := Cfg.wf_bounds h
  have hb := yieldBatch_le_height h
  obtain ⟨hwidth, hheight⟩ := geomWord_fields c
  obtain ⟨h0, h1, h2, hzero, hbatch⟩ := configWord_fields c
  have fits {n : Nat} (hn : n ≤ 65535) : (BitVec.ofNat 16 n).toNat = n := by
    rw [BitVec.toNat_ofNat, Nat.mod_eq_of_lt (by omega)]
  exact ⟨hwidth ▸ fits hw, hheight ▸ fits hh, h0, h1, h2, hzero, hbatch ▸ fits (by omega)⟩

/-! ### The host's reads and writes -/

/-- The state in which the host's turn and its access have been taken. -/
theorem State.afterTurn_popAccess_eq {s : State} {a : Access} {rest : List Access} (h : s.env.host = a :: rest) :
    s.afterTurn.popAccess = { s with env := { s.afterTurn.env with host := rest } } := by
  refine State.ext_fields ?_ ?_ ?_ ?_ ?_ ?_ ?_ ?_ ?_ ?_ ?_ ?_ ?_ <;> simp [s.afterTurn_env.1, h]

/-- The step of a host read is the read (20 R49). -/
theorem step_read {s : State} {off : Word} {rest : List Access} (hd : s.defined = true) (turn : s.nextTurn = .host)
    (hhost : s.env.host = .read 4 off :: rest) :
    step s = .next (State.hostRead { s with env := { s.afterTurn.env with host := rest } } off) := by
  rw [step_of_defined hd, turn, ← State.afterTurn_popAccess_eq hhost]
  simp only [stepAs, hostStep, s.afterTurn_env.1, hhost]

/-- The step of a host write to another offset than `CMD` is the write. -/
theorem step_write {s : State} {off v : Word} {rest : List Access} (hd : s.defined = true) (turn : s.nextTurn = .host)
    (hhost : s.env.host = .write 4 off v :: rest) (hoff : off ≠ offCmd) :
    step s = .next (State.hostWrite { s with env := { s.afterTurn.env with host := rest } } off v) := by
  rw [step_of_defined hd, turn, ← State.afterTurn_popAccess_eq hhost]
  simp only [stepAs, hostStep, s.afterTurn_env.1, hhost, hoff, if_false]

/-- The offsets of the registers that a read leaves alone: all but that of `STATUS` (10 R14). -/
def quietOffsets : List Word := [0x00#32, 0x04#32, 0x08#32, 0x0C#32, 0x14#32, 0x18#32, 0x1C#32, 0x20#32]

theorem mappedOffset_iff {off : Word} (hoff : off ≠ 0x10#32) : mappedOffset off = true ↔ off ∈ quietOffsets := by
  simp only [mappedOffset, Bool.or_eq_true, decide_eq_true_eq]
  simp [quietOffsets, offCmd, offArg0, offArg1, offArg2, offStatus, offResult, offFault, offGeom, offConfig, hoff, or_assoc]

/-- A read of another offset than that of `STATUS` delivers its value and changes `FAULT` alone, and that only where the
offset is unmapped (10 R22). -/
theorem State.hostRead_of_ne_status (s : State) {off : Word} (hoff : off ≠ 0x10#32) :
    s.hostRead off = { s with
      regs := if off ∈ quietOffsets then s.regs else { s.regs with fault := s.regs.fault ||| 0x1#32 }
      env := { s.env with rdata := s.readValue off } } := by
  have hstatus : off ≠ offStatus := hoff
  simp only [State.hostRead, State.afterRead, hstatus, if_false, mappedOffset_iff hoff]
  split <;> rfl

/-- An unmapped offset reads as 0 (10 R22). -/
theorem State.readValue_unmapped (s : State) {off : Word} (hoff : off ≠ 0x10#32) (h : off ∉ quietOffsets) :
    s.readValue off = 0 := by
  simp only [quietOffsets, List.mem_cons, List.not_mem_nil, or_false, not_or] at h
  obtain ⟨-, h1, h2, h3, h4, h5, h6, h7⟩ := h
  simp [State.readValue, offArg0, offArg1, offArg2, offStatus, offResult, offFault, offGeom, offConfig, hoff, h1, h2, h3,
    h4, h5, h6, h7]

/-- Settles O8: the value by `State.readValue`, the rest by `State.hostRead_of_ne_status`. -/
theorem hostReadsRegisters : Obligations.HostReadsRegisters := by
  intro s off rest hd turn hhost hoff
  have hstep := step_read hd turn hhost
  rw [State.hostRead_of_ne_status _ hoff] at hstep
  refine ⟨_, hstep, rfl, fun _ => rfl, rfl, ?_, ?_, ?_, ?_, ?_, ?_, ?_, ?_, fun h => State.readValue_unmapped _ hoff h⟩ <;>
    rintro rfl <;> rfl

/-- Settles O12: the case split is that of `State.hostWrite`. -/
theorem hostWritesRegisters : Obligations.HostWritesRegisters := by
  intro s off v rest hd turn hhost hoff
  refine ⟨_, step_write hd turn hhost hoff, ?_⟩
  unfold State.hostWrite
  split
  · next h => cases h; exact ⟨rfl, fun _ => rfl, fun _ => rfl, nofun, nofun, fun hn => absurd (by simp [offArg0]) hn⟩
  · next h0 =>
    split
    · next h => cases h; exact ⟨rfl, fun _ => rfl, nofun, fun _ => rfl, nofun, fun hn => absurd (by simp [offArg1]) hn⟩
    · next h1 =>
      split
      · next h => cases h; exact ⟨rfl, fun _ => rfl, nofun, nofun, fun _ => rfl, fun hn => absurd (by simp [offArg2]) hn⟩
      · next h2 =>
        exact ⟨rfl, fun _ => rfl, fun e => absurd e h0, fun e => absurd e h1, fun e => absurd e h2, fun _ => rfl⟩

/-! ### Right after reset -/

theorem State.reset_eq : State.reset = State.atReset Config.cfg (Config.answer 0) (Config.answer 1) (Config.answer 2) 0
    { host := [], rdata := 0, turns := [], answers := [], draws := 3 } := rfl

theorem State.atReset_resetTable (c : Cfg) (b d m : Bool) (n : Nat) (e : Env) :
    (State.atReset c b d m n e).ResetTable :=
  ⟨rfl, rfl, congrArg (Foreground.mk true .construct · 0) c.pConstruct_eq, rfl, rfl, rfl, rfl, rfl, rfl, rfl, rfl, rfl⟩

/-- Right after reset FG stands at the pulse of the construction program (41 R98). -/
theorem State.reset_fgOp : State.reset.fgOp = some .rstp := by
  rw [State.fgOp, State.reset_eq, State.atReset, Cfg.pConstruct_eq]
  rfl

/-- Whoever's turn it is, a well-formed configuration has a first step: the host has no access, BG does not exist, and FG
pulses the panel. -/
theorem reset_has_step (h : Config.cfg.wf = true) : ∃ t, step State.reset = .next t := by
  have hd : State.reset.defined = true := by
    rw [State.defined, Bool.and_eq_true]
    exact ⟨h, rfl⟩
  rw [step_of_defined hd]
  have e := State.reset.afterTurn_sameControl
  cases State.reset.nextTurn with
  | host =>
    have hhost : State.reset.afterTurn.env.host = [] := State.reset.afterTurn_env.1
    exact ⟨State.reset.afterTurn, by simp only [stepAs, hostStep, hhost]⟩
  | fg =>
    have hop : State.reset.afterTurn.fgOp = some .rstp := by rw [State.fgOp, e.fg]; exact State.reset_fgOp
    have hen : State.reset.afterTurn.fgEnabled = true := by rw [State.fgEnabled, e.fg, e.bg]; rfl
    exact ⟨_, by simp only [stepAs, fgStep, hen, hop, if_true]; rfl⟩
  | bg =>
    have hen : State.reset.afterTurn.bgEnabled = false := by rw [State.bgEnabled, e.bg]; rfl
    exact ⟨State.reset.afterTurn, by simp only [stepAs, bgStep, hen, Bool.false_eq_true, if_false]⟩
  | panelRise | panelFall | panelNone | blockReset => exact ⟨_, rfl⟩

/-- Settles O14: the table holds of what block reset leaves, and whether there is a first step is 00 R6's check alone. -/
theorem resetState : Obligations.ResetState := by
  refine ⟨State.atReset_resetTable .., rfl, fun _ => rfl, ?_⟩
  split
  · next h => exact reset_has_step h
  · next h => exact step_of_illFormed (Bool.eq_false_of_not_eq_true h)

theorem State.atReset_constructInv (c : Cfg) (b d m : Bool) (n : Nat) (e : Env) :
    (State.atReset c b d m n e).constructInv = true := by
  have keeps : (State.atReset c b d m n e).fgRest.all MicroOp.keepsRefresh = true := c.pConstruct_keepsRefresh
  rw [State.constructInv, keeps]
  rfl

/-- Settles O54: each invariant of block reset's own state, which `State.reset` is. -/
theorem resetMeetsTheInvariants : Obligations.ResetMeetsTheInvariants :=
  ⟨State.atReset_dataInv .., State.atReset_contextInv .., State.atReset_refreshInv .., State.atReset_constructInv ..,
    State.atReset_ownPrograms .., nofun⟩

end Sys2Proof.Machine
end

section
/-! What no step reads (10 R34, R36; 00 R4; 20 R47): the LUT, the durations and the window's base of the configuration, and
`MON_FAULT` and `mon_full_cfg_valid` of the monitor. Two states that are alike but for these take steps to states that
are alike but for these; how the two monitors are related is a parameter, so that one walk through `exec` serves both. -/

namespace Sys2Proof.Machine

/-! ### States alike but for what is not read -/

/-- The fields of a configuration that no step reads. -/
structure UnreadFields where
  lut : List Byte
  pollInterval : Nat
  tRstActive : Nat
  tRstRecover : Nat
  hostBase : Nat

def withUnread (c : Cfg) (x : UnreadFields) : Cfg :=
  { c with
    lut := x.lut, pollInterval := x.pollInterval, tRstActive := x.tRstActive, tRstRecover := x.tRstRecover,
    hostBase := x.hostBase }

/-- The state with other unread fields and another monitor. -/
def State.altered (s : State) (x : UnreadFields) (m : Monitor) : State := { s with cfg := withUnread s.cfg x, mon := m }

/-- What the walk needs of a relation of two monitors: `mon_asleep` agrees, and every update of the monitor keeps it. -/
structure MonitorRelation (P : Monitor → Monitor → Prop) : Prop where
  refl (m : Monitor) : P m m
  asleep {m n : Monitor} (h : P m n) : n.asleep = m.asleep
  record {m n : Monitor} (h : P m n) (b : Nat) (w : Bool) : P (m.record b w) (n.record b w)
  noInit {m n : Monitor} (h : P m n) :
    P (m.record mNoInit (!m.fullCfgValid)) (n.record mNoInit (!n.fullCfgValid))
  setAsleep {m n : Monitor} (h : P m n) (v : Bool) : P { m with asleep := v } { n with asleep := v }
  setValid {m n : Monitor} (h : P m n) (v : Bool) : P { m with fullCfgValid := v } { n with fullCfgValid := v }

theorem monitorRelation_eq : MonitorRelation (· = ·) := by
  constructor <;> intros <;> simp_all

theorem monitorRelation_asleep : MonitorRelation fun m n => n.asleep = m.asleep := by
  constructor <;> intros <;> simp_all [Monitor.record_asleep]

/-- `t` is `s` but for the unread fields and a related monitor. -/
def Alike (P : Monitor → Monitor → Prop) (x : UnreadFields) (s t : State) : Prop := ∃ m, P s.mon m ∧ t = s.altered x m

/-- Where the first result is a next state, the second is one that is alike. -/
def AlikeResult (P : Monitor → Monitor → Prop) (x : UnreadFields) (r r' : Result) : Prop :=
  ∀ u, r = .next u → ∃ v, r' = .next v ∧ Alike P x u v

/-! ### Updates -/

section
variable {P : Monitor → Monitor → Prop} {x : UnreadFields} {s t u v : State}

/-- An update that reads neither the unread fields nor the monitor, and keeps the monitor. -/
theorem Alike.update (h : Alike P x s t) (f : State → State) (commutes : ∀ s m, f (s.altered x m) = (f s).altered x m)
    (mon : (f s).mon = s.mon) : Alike P x (f s) (f t) := by
  obtain ⟨m, hm, rfl⟩ := h
  exact ⟨m, mon ▸ hm, commutes s m⟩

theorem Alike.ite (h : Alike P x s t) (h' : Alike P x u v) (b : Bool) :
    Alike P x (if b then s else u) (if b then t else v) := by
  cases b
  · exact h'
  · exact h

theorem Alike.result (h : Alike P x s t) : AlikeResult P x (.next s) (.next t) := by
  rintro _ ⟨⟩
  exact ⟨t, rfl, h⟩

theorem State.altered_advance (s : State) (m : Monitor) : (s.altered x m).advance = s.advance.altered x m := by
  cases hc : s.ctx
  · rw [State.advance_of_fg hc, State.advance_of_fg (s := s.altered x m) hc]; rfl
  · rw [State.advance_of_bg hc, State.advance_of_bg (s := s.altered x m) hc]; rfl

theorem State.altered_stay (s : State) (m : Monitor) : (s.altered x m).stay = s.stay.altered x m := by
  cases hc : s.ctx
  · rw [State.stay_of_fg hc, State.stay_of_fg (s := s.altered x m) hc]
  · rw [State.stay_of_bg hc, State.stay_of_bg (s := s.altered x m) hc]; rfl

theorem State.altered_abort (s : State) (m : Monitor) : (s.altered x m).abort = s.abort.altered x m := by
  cases hc : s.ctx
  · rw [State.abort_of_fg hc, State.abort_of_fg (s := s.altered x m) hc]; rfl
  · rw [State.abort_of_bg hc, State.abort_of_bg (s := s.altered x m) hc]; rfl

theorem State.altered_endContext (s : State) (m : Monitor) : (s.altered x m).endContext = s.endContext.altered x m := by
  cases hc : s.ctx
  · rw [State.endContext_of_fg hc, State.endContext_of_fg (s := s.altered x m) hc]; rfl
  · rw [State.endContext_of_bg hc, State.endContext_of_bg (s := s.altered x m) hc]; rfl

theorem State.altered_panelBusyEvent (s : State) (m : Monitor) :
    (s.altered x m).panelBusyEvent = s.panelBusyEvent.altered x m := by
  cases hl : s.cfg.panelLateBusy
  · rw [State.panelBusyEvent_now hl, State.panelBusyEvent_now (s := s.altered x m) hl]; rfl
  · rw [State.panelBusyEvent_late hl, State.panelBusyEvent_late (s := s.altered x m) hl]; rfl

theorem State.altered_afterTurn (s : State) (m : Monitor) : (s.altered x m).afterTurn = s.afterTurn.altered x m := by
  unfold State.afterTurn
  cases hturns : s.env.turns <;> simp [State.altered, hturns]

theorem Alike.advance (h : Alike P x s t) : Alike P x s.advance t.advance :=
  h.update State.advance State.altered_advance s.advance_mon

theorem Alike.stay (h : Alike P x s t) : Alike P x s.stay t.stay := h.update State.stay State.altered_stay s.stay_mon

theorem Alike.abort (h : Alike P x s t) : Alike P x s.abort t.abort :=
  h.update State.abort State.altered_abort s.abort_mon

theorem Alike.endContext (h : Alike P x s t) : Alike P x s.endContext t.endContext :=
  h.update State.endContext State.altered_endContext s.endContext_mon

theorem Alike.panelBusyEvent (h : Alike P x s t) : Alike P x s.panelBusyEvent t.panelBusyEvent :=
  h.update State.panelBusyEvent State.altered_panelBusyEvent s.panelBusyEvent_mon

theorem Alike.leaveSegment (h : Alike P x s t) : Alike P x s.leaveSegment t.leaveSegment :=
  h.update State.leaveSegment (fun _ _ => rfl) rfl

theorem Alike.afterTurn (h : Alike P x s t) : Alike P x s.afterTurn t.afterTurn :=
  h.update State.afterTurn State.altered_afterTurn s.afterTurn_mon

theorem Alike.finish (h : Alike P x s t) (op : OpId) (c : ResultCode) : Alike P x (s.finish op c) (t.finish op c) :=
  h.update (·.finish op c) (fun _ _ => rfl) rfl

theorem Alike.finishFaulted (h : Alike P x s t) (op : OpId) (b : Nat) :
    Alike P x (s.finishFaulted op b) (t.finishFaulted op b) :=
  h.update (·.finishFaulted op b) (fun _ _ => rfl) rfl

theorem Alike.raiseFault (h : Alike P x s t) (b : Nat) : Alike P x (s.raiseFault b) (t.raiseFault b) :=
  h.update (·.raiseFault b) (fun _ _ => rfl) rfl

theorem Alike.startFg (h : Alike P x s t) (op : BitVec 4) (prog : List MicroOp) :
    Alike P x (s.startFg op prog) (t.startFg op prog) :=
  h.update (·.startFg op prog) (fun _ _ => rfl) rfl

theorem Alike.popAccess (h : Alike P x s t) : Alike P x s.popAccess t.popAccess :=
  h.update State.popAccess (fun _ _ => rfl) rfl

theorem Alike.inCtx (h : Alike P x s t) (c : Ctx) : Alike P x (s.inCtx c) (t.inCtx c) :=
  h.update (·.inCtx c) (fun _ _ => rfl) rfl

theorem Alike.deliver (h : Alike P x s t) (w : Word) : Alike P x (s.deliver w) (t.deliver w) :=
  h.update (·.deliver w) (fun _ _ => rfl) rfl

/-! ### Acceptance of a host operation -/

theorem Alike.requireIdle (h : Alike P x s t) (h' : Alike P x u v) (op : BitVec 4) :
    Alike P x (s.requireIdle op u) (t.requireIdle op v) := by
  have busy : t.busy = s.busy := by obtain ⟨m, -, rfl⟩ := h; rfl
  unfold State.requireIdle
  rw [busy]
  exact (h.finishFaulted _ _).ite h' _

/-- A frame-buffer operation: its range check and what it does in range read only what agrees. -/
theorem Alike.ifInRange (h : Alike P x s t) (op : BitVec 4) (inRange : State → Bool) (f : State → State)
    (same : ∀ s m, inRange (s.altered x m) = inRange s) (commutes : ∀ s m, f (s.altered x m) = (f s).altered x m)
    (mon : (f s).mon = s.mon) : Alike P x (s.ifInRange op (inRange s) (f s)) (t.ifInRange op (inRange t) (f t)) := by
  have hin : inRange t = inRange s := by obtain ⟨m, -, rfl⟩ := h; exact same s m
  rw [hin]
  exact ((h.update f commutes mon).finish _ _).ite (h.finishFaulted _ _) _

theorem execSelectPartial_alike (h : Alike P x s t) : AlikeResult P x (execSelectPartial s) (execSelectPartial t) := by
  have hpart : t.cfg.partialSupported = s.cfg.partialSupported := by obtain ⟨m, -, rfl⟩ := h; rfl
  refine (h.requireIdle ?_ _).result
  rw [hpart]
  exact (h.update (·.selectMode 0x3 .partialMode) (fun _ _ => rfl) rfl).ite (h.finish _ _) _

/-! ### `YIELD` and the host's writes -/

theorem execUopYield_alike (h : Alike P x s t) : AlikeResult P x (execUopYield s) (execUopYield t) := by
  have hctx : t.ctx = s.ctx := by obtain ⟨m, -, rfl⟩ := h; rfl
  refine Alike.result ?_
  rw [hctx]
  cases s.ctx with
  | fg => exact h.advance
  | bg => exact h.advance.leaveSegment

theorem Alike.hostWrite (h : Alike P x s t) (off w : Word) : Alike P x (s.hostWrite off w) (t.hostWrite off w) := by
  unfold State.hostWrite
  split
  · exact h.update (fun s => { s with regs := { s.regs with arg0 := w } }) (fun _ _ => rfl) rfl
  · split
    · exact h.update (fun s => { s with regs := { s.regs with arg1 := w } }) (fun _ _ => rfl) rfl
    · split
      · exact h.update (fun s => { s with regs := { s.regs with arg2 := w } }) (fun _ _ => rfl) rfl
      · exact h.raiseFault _

end

section
variable {P : Monitor → Monitor → Prop} (hP : MonitorRelation P) {x : UnreadFields} {s t : State}
include hP

/-! ### Frames, pulses and samples -/

theorem Alike.beginFrame (h : Alike P x s t) (k : FrameKind) (bs : List Byte) :
    Alike P x (s.beginFrame k bs) (t.beginFrame k bs) := by
  obtain ⟨m, hm, rfl⟩ := h
  refine ⟨(m.record mAsleep s.mon.asleep).record mPanelBusy s.panel.pbusy, hP.record (hP.record hm _ _) _ _, ?_⟩
  rw [← hP.asleep hm]
  rfl

theorem Alike.frameSent (h : Alike P x s t) (k : FrameKind) (bs : List Byte) (bi : Bool) :
    Alike P x (s.frameSent k bs bi) (t.frameSent k bs bi) := by
  have logged := (h.beginFrame hP k bs).update (·.log (.frame k bs)) (fun _ _ => rfl) rfl
  exact logged.panelBusyEvent.ite logged bi

theorem Alike.frameFailed (h : Alike P x s t) (k : FrameKind) (bs : List Byte) :
    Alike P x (s.frameFailed k bs) (t.frameFailed k bs) :=
  (((h.beginFrame hP k bs).update (·.log (.frameFailed k bs)) (fun _ _ => rfl) rfl).raiseFault _).abort

theorem Alike.emitOp (h : Alike P x s t) (k : FrameKind) (bs : List Byte) (bi : Bool) :
    Alike P x (s.emitOp k bs bi) (t.emitOp k bs bi) := by
  have answer : t.answer = s.answer := by obtain ⟨m, -, rfl⟩ := h; rfl
  unfold State.emitOp
  rw [answer]
  exact (h.frameSent hP k bs bi).advance.ite (h.frameFailed hP k bs) _

theorem Alike.pulse (h : Alike P x s t) : Alike P x s.pulse t.pulse := by
  refine Alike.panelBusyEvent ?_
  obtain ⟨m, hm, rfl⟩ := h
  exact ⟨_, hP.setValid (hP.setAsleep hm false) false, rfl⟩

theorem Alike.sampleValue (h : Alike P x s t) : t.sampleValue = s.sampleValue := by
  obtain ⟨m, hm, rfl⟩ := h
  unfold State.sampleValue
  rw [← hP.asleep hm]
  rfl

theorem Alike.afterSample (h : Alike P x s t) : Alike P x s.afterSample t.afterSample := by
  have asleep : t.mon.asleep = s.mon.asleep := by obtain ⟨m, hm, rfl⟩ := h; exact hP.asleep hm
  unfold State.afterSample
  rw [h.sampleValue hP, asleep]
  exact ((h.update State.afterAnswer (fun _ _ => rfl) rfl).ite h _).update (·.log _) (fun _ _ => rfl) rfl

theorem Alike.assign (h : Alike P x s t) (a : Assign) : Alike P x (s.assign a) (t.assign a) := by
  cases a with
  | fsm w | mode w | updated w | complete w => exact h.update (·.assign _) (fun _ _ => rfl) rfl
  | monAsleep w =>
    obtain ⟨m, hm, rfl⟩ := h
    exact ⟨_, hP.setAsleep hm w, rfl⟩
  | monFullCfgValid w =>
    obtain ⟨m, hm, rfl⟩ := h
    exact ⟨_, hP.setValid hm w, rfl⟩

theorem Alike.assignAll (ps : List Assign) : ∀ {s t : State}, Alike P x s t → Alike P x (s.assignAll ps) (t.assignAll ps) := by
  induction ps with
  | nil => exact id
  | cons a ps ih => exact fun h => ih (h.assign hP a)

/-! ### `SHOW` -/

theorem Alike.checkFullInit (h : Alike P x s t) : Alike P x s.checkFullInit t.checkFullInit := by
  obtain ⟨m, hm, rfl⟩ := h
  exact ⟨_, hP.noInit hm, rfl⟩

theorem Alike.showFullBlocking (h : Alike P x s t) : Alike P x s.showFullBlocking t.showFullBlocking :=
  (h.checkFullInit hP).update (fun s => (s.setFsm .refreshingFull).startFg 0x4 s.cfg.pFullBlk) (fun _ _ => rfl) rfl

theorem Alike.showFullAsync (h : Alike P x s t) : Alike P x s.showFullAsync t.showFullAsync := by
  obtain ⟨m, hm, rfl⟩ := h
  exact ⟨_, hP.noInit hm, rfl⟩

theorem Alike.showPartial (h : Alike P x s t) : Alike P x s.showPartial t.showPartial := by
  obtain ⟨m, hm, rfl⟩ := h
  exact ⟨_, hP.setValid hm false, rfl⟩

theorem execShow_alike (h : Alike P x s t) : AlikeResult P x (execShow s) (execShow t) := by
  refine Alike.result ?_
  have hbusy : t.busy = s.busy := by obtain ⟨m, -, rfl⟩ := h; rfl
  have hmode : t.refresh.mode = s.refresh.mode := by obtain ⟨m, -, rfl⟩ := h; rfl
  have hasync : t.cfg.asyncRuntime = s.cfg.asyncRuntime := by obtain ⟨m, -, rfl⟩ := h; rfl
  rw [hbusy, hmode, hasync]
  refine (h.finish _ _).ite ?_ _
  cases s.refresh.mode with
  | fullMode => exact (h.showFullAsync hP).ite (h.showFullBlocking hP) _
  | partialMode => exact h.showPartial hP

/-! ### `exec` -/

/-- The operation of a `CMD` word, in two states that are alike. -/
theorem exec_host_alike {i : Instr} (hi : (encode i).1 = .hostWord) (h : Alike P x s t) :
    AlikeResult P x (exec i s) (exec i t) := by
  cases i with
  | initFull =>
    exact (h.requireIdle (h.update (fun s => s.startFg 0x1 (s.cfg.pInit s.opF)) (fun _ _ => rfl) rfl) _).result
  | selectFull => exact (h.requireIdle (h.update (·.selectMode 0x2 .fullMode) (fun _ _ => rfl) rfl) _).result
  | selectPartial => exact execSelectPartial_alike h
  | showRefresh => exact execShow_alike hP h
  | clear => exact (h.requireIdle (h.update (fun s => s.startFg 0x5 s.cfg.pClear) (fun _ _ => rfl) rfl) _).result
  | sleep => exact (h.requireIdle (h.update (fun s => s.startFg 0x6 s.cfg.pSleep) (fun _ _ => rfl) rfl) _).result
  | reset | waitReady => exact (h.startFg _ _).result
  | setPixel =>
    exact (h.ifInRange 0x9 (fun s => s.pixelInRange s.opX s.opY) (fun s => s.putPixel s.opX s.opY s.opV)
      (fun _ _ => rfl) (fun _ _ => rfl) rfl).result
  | getPixel =>
    exact (h.ifInRange 0xA (fun s => s.pixelInRange s.opX s.opY)
      (fun s => s.setResult ((BitVec.ofBool (s.pixel s.opX s.opY)).setWidth 32)) (fun _ _ => rfl) (fun _ _ => rfl) rfl).result
  | fill =>
    exact ((h.update (fun s => s.fillFb (if s.opV then 0xFF#8 else 0x00#8)) (fun _ _ => rfl) rfl).finish _ _).result
  | readByte =>
    exact (h.ifInRange 0xC (fun s => s.byteInRange s.opI) (fun s => s.setResult ((s.memRead s.opI).setWidth 32))
      (fun _ _ => rfl) (fun _ _ => rfl) rfl).result
  | writeByte =>
    exact (h.ifInRange 0xD (fun s => s.byteInRange s.opI) (fun s => s.memWrite s.opI s.opB) (fun _ _ => rfl)
      (fun _ _ => rfl) rfl).result
  | reservedOp0 | reservedOpE | reservedOpF | reservedHighBits => exact (h.finishFaulted _ _).result
  | _ => cases hi

theorem execUopRow_alike (src : RowSrc) (r : Nat) (h : Alike P x s t) :
    AlikeResult P x (execUopRow src r s) (execUopRow src r t) := by
  have hheight : t.cfg.height = s.cfg.height := by obtain ⟨m, -, rfl⟩ := h; rfl
  have hrow : t.rowBytes r = s.rowBytes r := by obtain ⟨m, -, rfl⟩ := h; rfl
  have hblank : blankBytes t.cfg = blankBytes s.cfg := by obtain ⟨m, -, rfl⟩ := h; rfl
  cases src with
  | blank =>
    simp only [execUopRow, hblank]
    exact (h.emitOp hP _ _ _).result
  | fb =>
    simp only [execUopRow, hheight, hrow]
    split
    · exact (h.emitOp hP _ _ _).result
    · rintro _ ⟨⟩

/-- A micro-op, in two states that are alike. -/
theorem exec_microOp_alike (op : MicroOp) (h : Alike P x s t) :
    AlikeResult P x (exec op.toInstr s) (exec op.toInstr t) := by
  cases op with
  | endProg => exact h.endContext.result
  | cmd | data => exact (h.emitOp hP _ _ _).result
  | row src r => exact execUopRow_alike hP src r h
  | rstp => exact (h.pulse hP).advance.result
  | waitr =>
    refine Alike.result ?_
    rw [h.sampleValue hP]
    exact (h.afterSample hP).stay.ite (h.afterSample hP).advance _
  | waitry =>
    refine Alike.result ?_
    rw [h.sampleValue hP]
    exact (h.afterSample hP).leaveSegment.ite (h.afterSample hP).advance _
  | yieldPoint => exact execUopYield_alike h
  | assign ps => exact (Alike.assignAll hP ps h).advance.result
  | havocFb => exact (h.update State.havocFb (fun _ _ => rfl) rfl).advance.result

/-! ### The agents -/

theorem Alike.readValue (h : Alike P x s t) (off : Word) : t.readValue off = s.readValue off := by
  have hsample := h.sampleValue hP
  obtain ⟨m, -, rfl⟩ := h
  unfold State.readValue
  rw [hsample]
  rfl

theorem Alike.hostRead (h : Alike P x s t) (off : Word) : Alike P x (s.hostRead off) (t.hostRead off) := by
  unfold State.hostRead
  rw [h.readValue hP]
  refine Alike.deliver ?_ _
  unfold State.afterRead
  split
  · exact h.afterSample hP
  · exact h.ite (h.raiseFault _) _

theorem Alike.pollOnce (h : Alike P x s t) (bit : Nat) (want : Bool) : Alike P x (s.pollOnce bit want) (t.pollOnce bit want) := by
  have hread := h.hostRead hP offStatus
  unfold State.pollOnce
  rw [h.readValue hP]
  dsimp only
  split
  · exact hread.popAccess
  · exact hread

theorem hostStep_alike (h : Alike P x s t) : AlikeResult P x (hostStep s) (hostStep t) := by
  have hhost : t.env.host = s.env.host := by obtain ⟨m, -, rfl⟩ := h; rfl
  have haccept : t.accept = s.accept := by obtain ⟨m, -, rfl⟩ := h; rfl
  unfold hostStep
  rw [hhost, haccept]
  split
  · exact h.result
  · exact (h.popAccess.hostRead hP _).result
  · exact (h.pollOnce hP _ _).result
  · split
    · split
      · exact exec_host_alike hP (decodeHostWord_space _) h.popAccess
      · exact h.result
    · exact (h.popAccess.hostWrite _ _).result

theorem runMicroOp_alike (m : Option MicroOp) (c : Ctx) (h : Alike P x s t) :
    AlikeResult P x (runMicroOp m c s) (runMicroOp m c t) := by
  cases m with
  | none => rintro _ ⟨⟩
  | some op =>
    simp only [runMicroOp]
    exact exec_microOp_alike hP op (h.inCtx c)

theorem fgStep_alike (h : Alike P x s t) : AlikeResult P x (fgStep s) (fgStep t) := by
  have hen : t.fgEnabled = s.fgEnabled := by obtain ⟨m, -, rfl⟩ := h; rfl
  have hop : t.fgOp = s.fgOp := by obtain ⟨m, -, rfl⟩ := h; rfl
  unfold fgStep
  rw [hen, hop]
  split
  · exact runMicroOp_alike hP _ _ h
  · exact h.result

theorem bgStep_alike (h : Alike P x s t) : AlikeResult P x (bgStep s) (bgStep t) := by
  have hen : t.bgEnabled = s.bgEnabled := by obtain ⟨m, -, rfl⟩ := h; rfl
  have hop : t.bgOp = s.bgOp := by obtain ⟨m, -, rfl⟩ := h; rfl
  unfold bgStep
  rw [hen, hop]
  split
  · exact runMicroOp_alike hP _ _ h
  · exact h.result

/-- Block reset puts both monitors at their reset value (10 R38). -/
theorem Alike.blockReset (h : Alike P x s t) : Alike P x s.blockReset t.blockReset := by
  obtain ⟨m, -, rfl⟩ := h
  exact ⟨_, hP.refl _, rfl⟩

theorem stepAs_alike (turn : Turn) (h : Alike P x s t) : AlikeResult P x (stepAs turn s) (stepAs turn t) := by
  cases turn with
  | host => exact hostStep_alike hP h
  | fg => exact fgStep_alike hP h
  | bg => exact bgStep_alike hP h
  | panelRise | panelFall => exact (h.update (·.panelMove _) (fun _ _ => rfl) rfl).result
  | panelNone => exact h.result
  | blockReset => exact (h.blockReset hP).result

/-- Two states that are alike take the same step, to states that are alike. -/
theorem step_alike (h : Alike P x s t) : AlikeResult P x (step s) (step t) := by
  intro u hs
  obtain ⟨hwf, hvalid, ha⟩ := step_next hs
  obtain ⟨v, hv, huv⟩ := stepAs_alike hP s.nextTurn h.afterTurn u ha
  obtain ⟨m, -, rfl⟩ := h
  have defined : (s.altered x m).defined = true := by
    rw [State.defined, Bool.and_eq_true]
    exact ⟨hwf, hvalid⟩
  exact ⟨v, (step_of_defined defined).trans hv, huv⟩

end

/-! ### The two statements -/

/-- Settles O48: with equal monitors, the state after the step differs in the unread fields alone. -/
theorem lutAndDurationsAreNotRead : Obligations.LutAndDurationsAreNotRead := by
  intro s t lut poll active recover base changed hs
  have h : Alike (· = ·) ⟨lut, poll, active, recover, base⟩ s (changed s) := ⟨s.mon, rfl, rfl⟩
  obtain ⟨v, hv, _, rfl, rfl⟩ := step_alike monitorRelation_eq h t hs
  exact hv

/-- The unread fields that a configuration has. -/
def unreadFields (c : Cfg) : UnreadFields := ⟨c.lut, c.pollInterval, c.tRstActive, c.tRstRecover, c.hostBase⟩

/-- Settles O49: with monitors that agree on `mon_asleep`, the state after the step differs in the monitor alone. -/
theorem monitorIsNotRead : Obligations.MonitorIsNotRead := by
  intro s t fault valid hs
  let m : Monitor := { s.mon with fault := fault, fullCfgValid := valid }
  have h : Alike (fun m n => n.asleep = m.asleep) (unreadFields s.cfg) s { s with mon := m } := ⟨m, rfl, rfl⟩
  obtain ⟨_, hv, n, hn, rfl⟩ := step_alike monitorRelation_asleep h t hs
  have hcfg : t.cfg = withUnread t.cfg (unreadFields s.cfg) := by rw [step_cfg hs]; rfl
  have hmon : t.mon = { n with fault := t.mon.fault, fullCfgValid := t.mon.fullCfgValid } := by rw [hn]
  exact ⟨_, hv, State.ext_fields hcfg rfl rfl rfl rfl rfl rfl rfl hmon rfl rfl rfl rfl⟩

end Sys2Proof.Machine
end

section
/-! The step of each agent (20 R49): which instruction it executes where the agent is enabled, what it does where it is
not, and the refusal of a host program that holds a partial or misaligned access (20 R43). Then the read of `STATUS`, by
an access or by a round of a poll (20 R45, 30 R64). -/

namespace Sys2Proof.Machine

/-! ### Who is enabled -/

theorem State.not_accept_iff (s : State) : ¬ s.accept = true ↔ s.fg.active = true ∨ s.bg.inSegment = true := by
  rw [s.accept_iff, Classical.not_and_iff_not_or_not, Bool.not_eq_false, Bool.not_eq_false]

theorem State.fgEnabled_iff (s : State) : s.fgEnabled = true ↔ s.fg.active = true ∧ s.bg.inSegment = false := by
  simp [State.fgEnabled]

theorem State.not_fgEnabled_iff (s : State) : ¬ s.fgEnabled = true ↔ s.fg.active = false ∨ s.bg.inSegment = true := by
  rw [s.fgEnabled_iff, Classical.not_and_iff_not_or_not, Bool.not_eq_true, Bool.not_eq_false]

theorem State.bgEnabled_iff (s : State) :
    s.bgEnabled = true ↔
      s.bg.active = true ∧ (s.bg.inSegment = true ∨ s.fg.active = false ∨ s.fgOp = some .waitr) := by
  simp [State.bgEnabled, or_assoc]

theorem State.not_bgEnabled_iff (s : State) :
    ¬ s.bgEnabled = true ↔
      s.bg.active = false ∨ s.bg.inSegment = false ∧ s.fg.active = true ∧ s.fgOp ≠ some .waitr := by
  rw [s.bgEnabled_iff, Classical.not_and_iff_not_or_not]
  simp only [not_or, Bool.not_eq_true, Bool.not_eq_false, ne_eq]

/-- Taking a turn changes neither context, so it enables and disables no agent. -/
theorem State.afterTurn_enabled (s : State) :
    s.afterTurn.accept = s.accept ∧ s.afterTurn.fgEnabled = s.fgEnabled ∧ s.afterTurn.bgEnabled = s.bgEnabled := by
  simp [State.accept, State.fgEnabled, State.bgEnabled, State.fgOp]

/-! ### A context's step -/

/-- At FG's turn FG's current micro-op is executed where FG is enabled, and nothing is done otherwise. -/
theorem step_fg {s : State} (hd : s.defined = true) (turn : s.nextTurn = .fg) :
    step s = if s.fgEnabled then runMicroOp s.fgOp .fg s.afterTurn else .next s.afterTurn := by
  obtain ⟨-, enabled, -⟩ := s.afterTurn_enabled
  have op : s.afterTurn.fgOp = s.fgOp := by simp [State.fgOp]
  rw [step_of_defined hd, turn, stepAs, fgStep, enabled, op]

/-- At BG's turn BG's current micro-op is executed where BG is enabled, and nothing is done otherwise. -/
theorem step_bg {s : State} (hd : s.defined = true) (turn : s.nextTurn = .bg) :
    step s = if s.bgEnabled then runMicroOp s.bgOp .bg s.afterTurn else .next s.afterTurn := by
  obtain ⟨-, -, enabled⟩ := s.afterTurn_enabled
  have op : s.afterTurn.bgOp = s.bgOp := by simp [State.bgOp]
  rw [step_of_defined hd, turn, stepAs, bgStep, enabled, op]

/-- Settles O5: the two lists of conditions say that FG, and that BG, is enabled. -/
theorem stepRunsCurrentMicroOp : Obligations.StepRunsCurrentMicroOp := by
  constructor
  · intro s m hd turn hactive hseg hop
    have fetched : s.fgOp = some m := hop
    rw [step_fg hd turn, if_pos (s.fgEnabled_iff.mpr ⟨hactive, hseg⟩), fetched]
    rfl
  · intro s m hd turn hactive hyield hop
    have fetched : s.bgOp = some m := hop
    rw [step_bg hd turn, if_pos (s.bgEnabled_iff.mpr ⟨hactive, hyield⟩), fetched]
    rfl

/-! ### The host's step -/

/-- At its turn a host without an access does nothing. -/
theorem step_host_done {s : State} (hd : s.defined = true) (turn : s.nextTurn = .host) (hhost : s.env.host = []) :
    step s = .next s.afterTurn := by
  rw [step_of_defined hd, turn]
  simp only [stepAs, hostStep, s.afterTurn_env.1, hhost]

/-- A `CMD` write is the acceptance step of its operation while `ACCEPT = 1`, and is held otherwise (10 R31, 41 R82). -/
theorem step_cmdWrite {s : State} {size : Nat} {v : Word} {rest : List Access} (hd : s.defined = true)
    (turn : s.nextTurn = .host) (hhost : s.env.host = .write size offCmd v :: rest) :
    step s = if s.accept then exec (decodeHostWord v) s.afterTurn.popAccess else .next s.afterTurn := by
  rw [step_of_defined hd, turn]
  simp only [stepAs, hostStep, s.afterTurn_env.1, hhost, if_true, s.afterTurn_enabled.1]

/-- Settles O4: `ACCEPT = 1` in `step_cmdWrite`. -/
theorem stepRunsAcceptedCommand : Obligations.StepRunsAcceptedCommand := by
  intro s v rest hd turn hhost hact hseg
  rw [step_cmdWrite hd turn hhost, if_pos (s.accept_iff.mpr ⟨hact, hseg⟩)]

/-- Settles O6: each clause is an agent's step where the agent is not enabled. -/
theorem disabledAgentsDoNothing : Obligations.DisabledAgentsDoNothing := by
  intro s hd
  refine ⟨fun turn hfg => ?_, fun turn hbg => ?_, step_host_done hd, ?_⟩
  · rw [step_fg hd turn, if_neg (s.not_fgEnabled_iff.mpr hfg)]
  · rw [step_bg hd turn, if_neg (s.not_bgEnabled_iff.mpr hbg)]
  · rintro turn hbusy ⟨size, v, rest, hhost⟩
    rw [step_cmdWrite hd turn hhost, if_neg (s.not_accept_iff.mpr hbusy)]

/-! ### A program with an access that is no whole aligned word -/

/-- A host program that holds such an access is refused, after the check of the configuration (20 R43, 00 R6). -/
theorem step_of_partialAccess {s : State} {a : Access} (ha : a ∈ s.env.host) (hw : a.wholeWord = false) :
    step s = .refused (if s.cfg.wf then .hostAccessNotWholeWord else .illFormedConfiguration) := by
  have invalid : s.hostProgramValid = false := List.all_eq_false.mpr ⟨a, ha, by simp [hw]⟩
  rw [step, machineStep, invalid]
  split <;> rfl

/-- Settles O7: the access is no whole word, be it a read or a write. -/
theorem misalignedAccessRefused : Obligations.MisalignedAccessRefused := by
  intro s size off v hmem hbad
  have bad : (size == 4 && off.toNat % 4 == 0) = false := by
    rw [Bool.and_eq_false_iff, beq_eq_false_iff_ne, beq_eq_false_iff_ne]
    exact hbad
  rcases hmem with h | h <;> exact step_of_partialAccess h bad

/-! ### The read of `STATUS` -/

/-- A sample leaves the host and the schedule alone. -/
theorem State.afterSample_env (s : State) :
    s.afterSample.env.host = s.env.host ∧ s.afterSample.env.turns = s.env.turns := by
  unfold State.afterSample State.afterAnswer Env.afterAnswer
  split
  · split <;> exact ⟨rfl, rfl⟩
  · exact ⟨rfl, rfl⟩

theorem State.hostRead_status (s : State) :
    s.hostRead offStatus = s.afterSample.deliver (s.statusWord s.sampleValue) := rfl

/-- What a read of `STATUS` at the host's turn leaves (20 R45), where the host has the accesses `host` left: the sample
recorded, and the word with it delivered. -/
def State.statusRead (s : State) (host : List Access) : State :=
  { s with
    trace := s.trace ++ [.sample s.afterTurn.sampleValue]
    env := { s.afterTurn.afterSample.env with host := host, rdata := s.statusWord s.afterTurn.sampleValue } }

theorem State.afterTurn_statusWord (s : State) (b : Bool) : s.afterTurn.statusWord b = s.statusWord b := by
  simp [State.statusWord, State.faulted, State.accept, State.ready, State.busy]

theorem State.afterTurn_hostRead_status (s : State) :
    s.afterTurn.hostRead offStatus = s.statusRead s.env.host := by
  have host : s.afterTurn.afterSample.env.host = s.env.host := s.afterTurn.afterSample_env.1.trans s.afterTurn_env.1
  rw [State.hostRead_status, s.afterTurn_statusWord]
  ext1 <;> simp [State.deliver, State.statusRead, ← host]

/-- A draw does not depend on the accesses that the host has left. -/
theorem Env.afterAnswer_tail (e : Env) :
    { e with host := e.host.tail }.afterAnswer = { e.afterAnswer with host := e.afterAnswer.host.tail } := by
  obtain ⟨host, rdata, turns, answers, draws⟩ := e
  cases answers <;> rfl

/-- A sample does not depend on the accesses that the host has left. -/
theorem State.popAccess_afterSample (s : State) : s.popAccess.afterSample = s.afterSample.popAccess := by
  have asleep : s.popAccess.mon.asleep = s.mon.asleep := rfl
  rw [State.afterSample, State.afterSample, asleep]
  split
  · simp only [State.popAccess, State.afterAnswer, Env.afterAnswer_tail]
    rfl
  · rfl

theorem State.popAccess_hostRead_status (s : State) :
    s.popAccess.hostRead offStatus = (s.hostRead offStatus).popAccess := by
  rw [State.hostRead_status, State.hostRead_status, State.popAccess_afterSample]
  rfl

/-- The step of a read of `STATUS`. -/
theorem step_readStatus {s : State} {rest : List Access} (hd : s.defined = true) (turn : s.nextTurn = .host)
    (hhost : s.env.host = .read 4 offStatus :: rest) : step s = .next (s.statusRead rest) := by
  rw [step_read hd turn hhost, ← State.afterTurn_popAccess_eq hhost, State.popAccess_hostRead_status,
    State.afterTurn_hostRead_status, hhost]
  rfl

/-- The step of a poll: the poll is done when its bit reads as wanted, and else stays (30 R64). -/
theorem step_poll {s : State} {bit : Nat} {want : Bool} {rest : List Access} (hd : s.defined = true)
    (turn : s.nextTurn = .host) (hhost : s.env.host = .poll bit want :: rest) :
    step s = .next (s.statusRead
      (if (s.statusWord s.afterTurn.sampleValue).getLsbD bit = want then rest else .poll bit want :: rest)) := by
  have word : s.afterTurn.readValue offStatus = s.statusWord s.afterTurn.sampleValue := s.afterTurn_statusWord _
  rw [step_of_defined hd, turn]
  simp only [stepAs, hostStep, s.afterTurn_env.1, hhost]
  rw [State.pollOnce, word, State.afterTurn_hostRead_status, hhost]
  split <;> rfl

/-- The read changes the trace and `env` alone, and leaves the schedule as the turn left it. -/
theorem State.statusRead_eq (s : State) (host : List Access) :
    s.statusRead host = { s with
      trace := s.trace ++ [.sample s.afterTurn.sampleValue]
      env := { (s.statusRead host).env with
        rdata := s.statusWord s.afterTurn.sampleValue, turns := s.afterTurn.env.turns } } := by
  simp only [State.statusRead, ← s.afterTurn.afterSample_env.2]

/-- The sample reads the panel's line while awake, and takes the next draw while asleep (60 R124). -/
theorem State.statusRead_sample (s : State) (host : List Access) :
    (s.mon.asleep = false →
        s.afterTurn.sampleValue = s.panel.pbusy ∧ (s.statusRead host).env.answers = s.env.answers)
      ∧ (s.mon.asleep = true → s.afterTurn.sampleValue = s.afterTurn.answer) := by
  obtain ⟨awake, asleep⟩ := s.afterTurn.sample_spec
  rw [s.afterTurn_mon] at awake asleep
  refine ⟨fun h => ?_, fun h => (asleep h).1⟩
  obtain ⟨line, env⟩ := awake h
  exact ⟨line.trans (by rw [s.afterTurn_panel]), (congrArg Env.answers env).trans s.afterTurn_env.2.2⟩

/-- Settles O9: a read and a round of a poll leave `State.statusRead`, and differ in the accesses left. -/
theorem hostReadsStatus : Obligations.HostReadsStatus := by
  intro s a rest hd turn hhost ha
  rcases ha with rfl | ⟨bit, want, rfl⟩
  · obtain ⟨awake, asleep⟩ := s.statusRead_sample rest
    exact ⟨_, _, step_readStatus hd turn hhost, awake, asleep, s.statusRead_eq rest, fun _ => rfl, nofun, fun _ => rfl⟩
  · obtain ⟨awake, asleep⟩ := s.statusRead_sample
      (if (s.statusWord s.afterTurn.sampleValue).getLsbD bit = want then rest else .poll bit want :: rest)
    refine ⟨_, _, step_poll hd turn hhost, awake, asleep, s.statusRead_eq _, nofun, ?_, fun _ => rfl⟩
    rintro _ _ ⟨⟩
    rfl

end Sys2Proof.Machine
end

section
/-! The decoder reads back what the encoder writes (30 R55, R56, R58, R62): first the operands, then the `CMD` words as
pairs of the reserved bits and `OP`, then every row of the table. Last, what executing a wire row does (log 1). -/

namespace Sys2Proof

/-! ### Operands -/

@[simp] theorem decodeFlag_encodeFlag (b : Bool) : decodeFlag (encodeFlag b) = .ok b := by cases b <;> rfl

@[simp] theorem decodeSrc_encodeSrc (src : RowSrc) : decodeSrc (encodeSrc src) = .ok src := by cases src <;> rfl

@[simp] theorem decodeByteList_encodeByteList (b : Byte) (bs rest : List Byte) :
    decodeByteList (encodeByteList b bs ++ rest) = .ok ((b, bs), rest) := by
  induction bs generalizing b with
  | nil => rfl
  | cons b' bs ih => simp [encodeByteList, decodeByteList, ih]

/-- A pair of a `SET` is two bytes, the first a field number, so none that ends the list. -/
theorem encodeAssign_spec (a : Assign) :
    ∃ field value, encodeAssign a = [field, value] ∧ field ≠ 0#8 ∧ decodeAssign field value = .ok a := by
  cases a with
  | fsm v | mode v | updated v | complete v | monAsleep v | monFullCfgValid v =>
    cases v <;> exact ⟨_, _, rfl, by decide, rfl⟩

@[simp] theorem decodeAssigns_encodeAssigns (ps : List Assign) (rest : List Byte) :
    decodeAssigns (encodeAssigns ps ++ rest) = .ok (ps, rest) := by
  induction ps with
  | nil => cases rest <;> rfl
  | cons a ps ih =>
    obtain ⟨field, value, bytes, nonzero, decoded⟩ := encodeAssign_spec a
    simp [encodeAssigns, bytes, decodeAssigns, nonzero, decoded, ih]

/-- The two bytes of a row number give it back, as every row of a well-formed panel fits in them (00 R6 WF1). -/
theorem rowNumber_of_bytes {r : Nat} (hr : r < 65536) :
    (BitVec.ofNat 8 (r / 256)).toNat * 256 + (BitVec.ofNat 8 r).toNat = r := by
  simp only [BitVec.toNat_ofNat]
  omega

/-! ### `CMD` words -/

/-- The four bytes of a word, put together again, are the word. -/
theorem word_of_bytes (w : Word) :
    w.extractLsb' 24 8 ++ w.extractLsb' 16 8 ++ w.extractLsb' 8 8 ++ w.extractLsb' 0 8 = w := by
  rw [BitVec.extractLsb'_append_extractLsb'_eq_extractLsb' (start₂ := 24) (start₁ := 16) rfl,
    BitVec.extractLsb'_append_extractLsb'_eq_extractLsb' (start₂ := 16) (start₁ := 8) rfl,
    BitVec.extractLsb'_append_extractLsb'_eq_extractLsb' (start₂ := 8) (start₁ := 0) rfl]
  exact BitVec.extractLsb'_eq_self

theorem decode_hostWordBytes (hi : BitVec 28) (op : BitVec 4) (rest : List Byte) :
    decode .hostWord ((hostWordBytes hi op).2 ++ rest) = .ok (decodeHostWord (hi ++ op), rest) := by
  simp only [hostWordBytes, decode, List.cons_append, List.nil_append, word_of_bytes]

theorem decodeHostWord_of_high {hi : BitVec 28} (h : hi ≠ 0#28) (op : BitVec 4) :
    decodeHostWord (hi ++ op) = .reservedHighBits hi op := by
  have high : BitVec.extractLsb' 4 28 (hi ++ op : Word) = hi := BitVec.extractLsb'_append_eq_left
  have low : BitVec.extractLsb' 0 4 (hi ++ op : Word) = op := BitVec.extractLsb'_append_eq_right
  rw [decodeHostWord, high, low, if_neg h]

/-- With the reserved bits zero, each of the sixteen values of `OP` has a row of its own (30 R56, 60 R121). -/
theorem encode_decodeHostWord_of_low (op : BitVec 4) :
    encode (decodeHostWord (0#28 ++ op)) = hostWordBytes 0#28 op := by
  revert op
  decide

theorem encode_decodeHostWord (hi : BitVec 28) (op : BitVec 4) :
    encode (decodeHostWord (hi ++ op)) = hostWordBytes hi op := by
  by_cases h : hi = 0#28
  · rw [h]
    exact encode_decodeHostWord_of_low op
  · rw [decodeHostWord_of_high h]
    rfl

theorem decodeHostWord_wellFormed (c : Cfg) (w : Word) : (decodeHostWord w).wellFormed c = true := by
  unfold decodeHostWord
  split
  · split <;> rfl
  · next h => simpa [Instr.wellFormed] using h

/-- Settles O3: a word is its reserved bits before its `OP`, and `encode_decodeHostWord` keeps both. -/
theorem commandWordsReencode : Obligations.CommandWordsReencode := by
  intro c w
  refine ⟨decodeHostWord_wellFormed c w, ?_⟩
  have parts : w.extractLsb' 4 28 ++ w.extractLsb' 0 4 = w := BitVec.extractLsb'_append_extractLsb'
  have encoded := encode_decodeHostWord (w.extractLsb' 4 28) (w.extractLsb' 0 4)
  simpa only [hostWordBytes, parts] using encoded

/-! ### Every row of the table -/

/-- The row of a host operation or of a reserved word, which encodes to a `CMD` word that decodes to it. -/
theorem decode_encode_of_hostWord {i : Instr} (rest : List Byte)
    (h : ∃ hi op, encode i = hostWordBytes hi op ∧ decodeHostWord (hi ++ op) = i) :
    decode (encode i).1 ((encode i).2 ++ rest) = .ok (i, rest) := by
  obtain ⟨hi, op, encoded, decoded⟩ := h
  rw [encoded, ← decoded]
  exact decode_hostWordBytes hi op rest

/-- Settles O2: a case per form of row: a `CMD` word, a code alone, a code before its operands, a whole frame.
Well-formedness is needed for the reserved high bits and for a row's number. -/
theorem encodedInstructionsDecode : Obligations.EncodedInstructionsDecode := by
  intro c i rest hc hwf hframe
  cases i with
  | initFull | selectFull | selectPartial | showRefresh | clear | sleep | reset | waitReady | setPixel | getPixel | fill
  | readByte | writeByte | reservedOp0 | reservedOpE | reservedOpF =>
    exact decode_encode_of_hostWord rest ⟨_, _, rfl, rfl⟩
  | reservedHighBits hi op =>
    have high : hi ≠ 0#28 := by simpa [Instr.wellFormed] using hwf
    exact decode_encode_of_hostWord rest ⟨hi, op, rfl, decodeHostWord_of_high high op⟩
  | uopEnd | uopRstp | uopWaitr | uopWaitry | uopYield | uopHavocFb => rfl
  | uopCmd op bi => simp [encode, decode, decodeMicroOp, Except.map]
  | uopData b bs bi => simp [encode, decode, decodeMicroOp]
  | uopRow src r =>
    have row : r < c.height := by simpa [Instr.wellFormed] using hwf
    obtain ⟨-, -, -, height⟩ := Cfg.wf_bounds hc
    have number := rowNumber_of_bytes (r := r) (by omega)
    simpa [encode, decode, decodeMicroOp, Except.map] using number
  | uopSet ps => simp [encode, decode, decodeMicroOp, Except.map]
  | wireCommandFrame op | wireDataFrame b bs =>
    obtain rfl := hframe ⟨_, rfl⟩
    simp [encode, decode, decodeFrame]
  | wireSwreset | wireDem | wireBorderFull | wireBorderPartial | wireDucPartial | wireWindow | wireCursor | wireActFull
  | wireActPartial | wireSleep | wireForce => rfl
  | wireWriteCur src | wireWritePrev src => simp [encode, decode, decodeGroup, Except.map]

/-- Settles O1: the decoder run on each word and each list of bytes. -/
theorem specWordsDecode : Obligations.SpecWordsDecode :=
  ⟨rfl, rfl, rfl, rfl, rfl, rfl, rfl, rfl, rfl, rfl, rfl, rfl, rfl⟩

end Sys2Proof

namespace Sys2Proof.Machine

/-! ### Wire frames and groups -/

/-- A frame whose draw is 1 goes out, and leaves both contexts alone (40 R67). -/
theorem State.emit_spec_of_sent {s : State} (h : s.answer = true) (k : FrameKind) (bs : List Byte) (bi : Bool) :
    SentFrame s (s.emit k bs bi) k bs bi ∧ (s.emit k bs bi).fg = s.fg ∧ (s.emit k bs bi).bg = s.bg := by
  rw [State.emit, if_pos h]
  exact ⟨s.frameSent_spec k bs bi, s.frameSent_fg k bs bi, s.frameSent_bg k bs bi⟩

/-- A frame whose draw is 0 fails (40 R67, R68). -/
theorem State.emit_spec_of_failed {s : State} (h : s.answer = false) (k : FrameKind) (bs : List Byte) (bi : Bool) :
    FailedFrame s (s.emit k bs bi) k bs := by
  rw [State.emit, if_neg (by simp [h])]
  exact s.frameFailed_spec k bs

/-- Settles O38: the draw decides between the two outcomes of `Emit`, for either kind of frame. -/
theorem wireFramesEmit : Obligations.WireFramesEmit := by
  intro s op b bs
  refine ⟨fun sent => ⟨⟨_, rfl, ?_⟩, ⟨_, rfl, ?_⟩⟩, fun failed => ⟨⟨_, rfl, ?_⟩, ⟨_, rfl, ?_⟩⟩⟩
  · exact State.emit_spec_of_sent sent .command [op] false
  · exact State.emit_spec_of_sent sent .data (b :: bs) false
  · exact State.emit_spec_of_failed failed .command [op] false
  · exact State.emit_spec_of_failed failed .data (b :: bs) false

theorem State.splice_of_fg {s : State} (h : s.ctx = .fg) (ops : List MicroOp) :
    s.splice ops = { s with
      fg := { s.fg with prog := s.fg.prog.take s.fg.pc ++ ops ++ s.fg.prog.drop s.fg.pc } } := by
  simp [State.splice, h]

theorem State.splice_of_bg {s : State} (h : s.ctx = .bg) (ops : List MicroOp) :
    s.splice ops = { s with
      bg := { s.bg with prog := s.bg.prog.take s.bg.pc ++ ops ++ s.bg.prog.drop s.bg.pc } } := by
  simp [State.splice, h]

/-- Settles O39: each of the 13 rows is `State.splice` of its expansion. -/
theorem wireGroupsExpand : Obligations.WireGroupsExpand := by
  intro s src i ops row
  -- Run over the whole list, `exec` gives the list of the splices: an equation per row.
  have runs : exec i s = .next (s.splice ops) :=
    (List.map_inj_left (f := fun p : Instr × List MicroOp => exec p.1 s)
      (g := fun p => .next (s.splice p.2))).mp rfl _ row
  exact ⟨_, runs, fun fg => State.splice_of_fg fg ops, fun bg => State.splice_of_bg bg ops,
    SameBytes.of_fb (s.splice_fb ops) (s.splice_fbEra ops)⟩

end Sys2Proof.Machine
end

section
/-! The micro-ops one at a time (40 R69 to R71, R75 to R81): what each sends, samples or writes, how it moves the
context executing, and what it leaves unchanged; and where the model stops (log 13). -/

namespace Sys2Proof.Machine

/-! ### Frame micro-ops (40 R67 to R72) -/

/-- A frame micro-op whose draw is 1 sends its frame and advances (40 R67). -/
theorem State.emitOp_spec_of_sent {s : State} (h : s.answer = true) (k : FrameKind) (bs : List Byte) (bi : Bool) :
    SentFrame s (s.emitOp k bs bi) k bs bi ∧ ContextMoved s (s.emitOp k bs bi) 1 true := by
  rw [State.emitOp, if_pos h]
  exact (s.frameSent_spec k bs bi).advance (s.frameSent_fg k bs bi) (s.frameSent_bg k bs bi)

/-- A frame micro-op whose draw is 0 fails (40 R68). -/
theorem State.emitOp_spec_of_failed {s : State} (h : s.answer = false) (k : FrameKind) (bs : List Byte) (bi : Bool) :
    FailedFrame s (s.emitOp k bs bi) k bs := by
  rw [State.emitOp, if_neg (by simp [h])]
  exact s.frameFailed_spec k bs

theorem exec_row_fb {s : State} {r : Nat} (h : r < s.cfg.height) :
    exec (.uopRow .fb r) s = .next (s.emitOp .data (s.rowBytes r) false) :=
  if_pos (rowExists_of_lt h)

theorem exec_row_blank (s : State) (r : Nat) :
    exec (.uopRow .blank r) s = .next (s.emitOp .data (List.replicate s.cfg.stride 0xFF#8) false) :=
  congrArg (fun bs => Host.Outcome.next (s.emitOp .data bs false)) (blankBytes_eq s.cfg)

/-- Settles O28: both micro-ops are `State.emitOp` of their frame. -/
theorem commandAndDataMicroOpsSend : Obligations.CommandAndDataMicroOpsSend := by
  intro s op b bs bi sent
  exact ⟨⟨_, rfl, State.emitOp_spec_of_sent sent .command [op] bi⟩,
    ⟨_, rfl, State.emitOp_spec_of_sent sent .data (b :: bs) bi⟩⟩

theorem xor_ff_xor_ff (b : Byte) : b ^^^ 0xFF#8 ^^^ 0xFF#8 = b := by
  rw [BitVec.xor_assoc, BitVec.xor_self, BitVec.xor_zero]

/-- Settles O29: a row is `State.emitOp` of its bytes, and flipping every bit twice changes none. -/
theorem rowMicroOpsSend : Obligations.RowMicroOpsSend := by
  intro s r sent held
  refine ⟨fun hr => ⟨_, s.rowBytes r, exec_row_fb hr, ?_, ?_, State.emitOp_spec_of_sent sent .data _ false⟩,
    ⟨_, exec_row_blank s r, State.emitOp_spec_of_sent sent .data _ false⟩⟩
  · rw [State.rowBytes_eq, List.map_map]
    rfl
  · rw [State.rowBytes_eq, List.map_map]
    exact List.map_congr_left fun k _ => xor_ff_xor_ff _

/-- Settles O31: each frame micro-op is `State.emitOp` of its frame. -/
theorem failedFramesAbort : Obligations.FailedFramesAbort := by
  intro s op b bs bi r failed
  refine ⟨⟨_, rfl, State.emitOp_spec_of_failed failed .command [op] bi⟩,
    ⟨_, rfl, State.emitOp_spec_of_failed failed .data (b :: bs) bi⟩, fun hr => ⟨_, exec_row_fb hr, ?_⟩,
    ⟨_, exec_row_blank s r, State.emitOp_spec_of_failed failed .data _ false⟩⟩
  rw [← s.rowBytes_eq r]
  exact State.emitOp_spec_of_failed failed .data _ false

/-! ### `RSTP`, `WAITR`, `WAITRY`, `YIELD`, `HAVOC_FB`, `END` (40 R75 to R78, R80, R81) -/

theorem State.pulse_outside (s : State) :
    s.pulse.env.host = s.env.host ∧ s.pulse.env.rdata = s.env.rdata ∧ s.pulse.env.turns = s.env.turns :=
  State.panelBusyEvent_outside _

theorem State.pulse_raised (s : State) : PanelRaised s s.pulse s.answer := State.panelBusyEvent_raised _

/-- Settles O32: the pulse, and then the move of the context. -/
theorem resetPulse : Obligations.ResetPulse := by
  intro s
  refine ⟨_, rfl, ?_, ?_, s.pulse.advance_moved.of_same s.pulse_ctx s.pulse_fg s.pulse_bg,
    SameBytes.of_fb (by simp) (by simp), ?_⟩
  · ext1 <;> simp [Pins.afterPulse]
  · rw [PanelRaised, s.pulse.advance_panel]
    exact s.pulse_raised
  · rw [s.pulse.advance_env]
    exact s.pulse_outside

theorem State.advance_eq (s : State) : s.advance = { s with fg := s.advance.fg, bg := s.advance.bg } := by
  ext1 <;> simp

theorem State.stay_eq (s : State) : s.stay = { s with fg := s.stay.fg, bg := s.stay.bg } := by
  ext1 <;> simp

/-- What a sample leaves, seen after the contexts have moved: what it read (60 R124), and all that it changed. -/
theorem State.sample_spec_of_moved {s t : State} (h : t = { s.afterSample with fg := t.fg, bg := t.bg }) :
    (s.mon.asleep = false → s.sampleValue = s.panel.pbusy ∧ t.env = s.env)
      ∧ (s.mon.asleep = true → s.sampleValue = s.answer ∧ t.env = s.afterAnswer.env)
      ∧ t = { s with trace := s.trace ++ [.sample s.sampleValue], fg := t.fg, bg := t.bg, env := t.env }
      ∧ SameBytes s t := by
  have env : t.env = s.afterSample.env := by rw [h]
  refine ⟨env ▸ s.sample_spec.1, env ▸ s.sample_spec.2, ?_, ?_⟩
  · rw [h]
    ext1 <;> simp
  · rw [h]
    exact SameBytes.of_fb s.afterSample_fb s.afterSample_fbEra

/-- A move of a context after a sample, seen from before the sample. -/
theorem ContextMoved.of_afterSample {s t : State} {n : Nat} {seg : Bool} (h : ContextMoved s.afterSample t n seg) :
    ContextMoved s t n seg :=
  h.of_same s.afterSample_ctx s.afterSample_fg s.afterSample_bg

/-- Settles O33: after the sample the context stays or advances. -/
theorem blockingWait : Obligations.BlockingWait := by
  intro s
  have runs : exec .uopWaitr s = .next (if s.sampleValue then s.afterSample.stay else s.afterSample.advance) := rfl
  cases busy : s.sampleValue with
  | true =>
    obtain ⟨awake, asleep, frame, bytes⟩ := State.sample_spec_of_moved s.afterSample.stay_eq
    rw [busy] at awake asleep frame runs
    exact ⟨_, true, runs, awake, asleep, frame, s.afterSample.stay_moved.of_afterSample, bytes⟩
  | false =>
    obtain ⟨awake, asleep, frame, bytes⟩ := State.sample_spec_of_moved s.afterSample.advance_eq
    rw [busy] at awake asleep frame runs
    exact ⟨_, false, runs, awake, asleep, frame, s.afterSample.advance_moved.of_afterSample, bytes⟩

theorem exec_yield (s : State) : ∃ t, exec .uopYield s = .next t ∧ t = { s with fg := t.fg, bg := t.bg }
    ∧ ContextMoved s t 1 false := by
  cases ctx : s.ctx with
  | fg =>
    have runs : exec .uopYield s = .next s.advance := by simp [exec, execUopYield, ctx]
    exact ⟨_, runs, by rw [← ctx]; exact s.advance_eq, by simp [ContextMoved, ctx, State.advance_of_fg ctx]⟩
  | bg =>
    have runs : exec .uopYield s = .next s.advance.leaveSegment := by simp [exec, execUopYield, ctx]
    exact ⟨_, runs, by ext1 <;> simp [ctx], by simp [ContextMoved, ctx, State.advance_of_bg ctx]⟩

/-- Settles O34: after the sample of `WAITRY` the context advances, or BG leaves its segment. -/
theorem cooperativeWaitAndYield : Obligations.CooperativeWaitAndYield := by
  intro s
  refine ⟨?_, ?_⟩
  · have runs : exec .uopWaitry s
        = .next (if s.sampleValue then s.afterSample.leaveSegment else s.afterSample.advance) := rfl
    cases busy : s.sampleValue with
    | true =>
      obtain ⟨awake, asleep, frame, bytes⟩ := State.sample_spec_of_moved (s := s) (t := s.afterSample.leaveSegment) rfl
      rw [busy] at awake asleep frame runs
      exact ⟨_, true, runs, awake, asleep, frame, fun _ => by simp, nofun, bytes⟩
    | false =>
      obtain ⟨awake, asleep, frame, bytes⟩ := State.sample_spec_of_moved s.afterSample.advance_eq
      rw [busy] at awake asleep frame runs
      exact ⟨_, false, runs, awake, asleep, frame, nofun, fun _ => s.afterSample.advance_moved.of_afterSample, bytes⟩
  · obtain ⟨t, runs, frame, moved⟩ := exec_yield s
    exact ⟨t, runs, frame, moved, SameBytes.of_fb (by rw [frame]) (by rw [frame])⟩

/-- Settles O36: an empty list of written bytes, read at the next draw of the buffer. -/
theorem havocFrameBuffer : Obligations.HavocFrameBuffer := by
  intro s
  refine ⟨_, rfl, fun a => by simp [State.memRead], ?_, s.havocFb.advance_moved.of_same rfl rfl rfl⟩
  ext1 <;> simp

/-- Settles O37: a clause per context. -/
theorem endOfProgram : Obligations.EndOfProgram :=
  ⟨rfl, fun s => ⟨_, rfl, State.endContext_of_fg, State.endContext_of_bg,
    SameBytes.of_fb s.endContext_fb s.endContext_fbEra⟩⟩

/-! ### Where the model stops (log 13) -/

theorem rowExists_iff {h : Nat} (hh : 1 ≤ h) (r : Nat) : rowExists h r = true ↔ r < h := by
  cases r with
  | zero => exact iff_of_true rfl hh
  | succ r => exact decide_eq_true_iff

/-- Settles O30: a row that does not exist, a pc past its program in FG and in BG, an ill-formed configuration. -/
theorem stopsNameTheirReason : Obligations.StopsNameTheirReason := by
  refine ⟨?_, ?_, ?_, fun s => step_of_illFormed⟩
  · intro s r hh hr
    exact if_neg (mt (rowExists_iff hh r).mp (Nat.not_lt.mpr hr))
  · intro s hd turn active yielded past
    have none : s.fgOp = none := List.getElem?_eq_none past
    rw [step_fg hd turn, if_pos (s.fgEnabled_iff.mpr ⟨active, yielded⟩), none]
    rfl
  · intro s hd turn active enabled past
    have none : s.bgOp = none := List.getElem?_eq_none past
    rw [step_bg hd turn, if_pos (s.bgEnabled_iff.mpr ⟨active, enabled⟩), none]
    rfl

end Sys2Proof.Machine
end

section
/-! A `SET` writes its list in one step (40 R79): a listed field has its value, and a field that is not listed is
kept. -/

namespace Sys2Proof

/-! ### The field that a pair names -/

section
variable (a : Assign)

theorem Assign.field_eq_fsm (v : Fsm) : a.field = (Assign.fsm v).field ↔ ∃ w, a = .fsm w := by
  cases a <;> simp [Assign.field]

theorem Assign.field_eq_mode (v : Mode) : a.field = (Assign.mode v).field ↔ ∃ w, a = .mode w := by
  cases a <;> simp [Assign.field]

theorem Assign.field_eq_updated (v : Bool) : a.field = (Assign.updated v).field ↔ ∃ w, a = .updated w := by
  cases a <;> simp [Assign.field]

theorem Assign.field_eq_complete (v : Bool) : a.field = (Assign.complete v).field ↔ ∃ w, a = .complete w := by
  cases a <;> simp [Assign.field]

theorem Assign.field_eq_monAsleep (v : Bool) : a.field = (Assign.monAsleep v).field ↔ ∃ w, a = .monAsleep w := by
  cases a <;> simp [Assign.field]

theorem Assign.field_eq_monFullCfgValid (v : Bool) :
    a.field = (Assign.monFullCfgValid v).field ↔ ∃ w, a = .monFullCfgValid w := by
  cases a <;> simp [Assign.field]

end

/-- A list without a pair of a kind does not name the field of that kind. -/
theorem field_notMem_of_unlisted {α : Type} {pair : α → Assign} {v : α} {ps : List Assign}
    (kind : ∀ a : Assign, a.field = (pair v).field ↔ ∃ w, a = pair w) (h : ∀ w, pair w ∉ ps) :
    (pair v).field ∉ ps.map Assign.field := by
  intro hm
  obtain ⟨a, ha, e⟩ := List.mem_map.mp hm
  obtain ⟨w, rfl⟩ := (kind a).mp e
  exact h w ha

end Sys2Proof

namespace Sys2Proof.Machine

/-! ### The field's value after a `SET` -/

/-- The field that a pair of a `SET` names has the pair's value. -/
def State.Holds (s : State) : Assign → Prop
  | .fsm v => s.refresh.fsm = v
  | .mode v => s.refresh.mode = v
  | .updated v => s.refresh.updated = v
  | .complete v => s.refresh.complete = v
  | .monAsleep v => s.mon.asleep = v
  | .monFullCfgValid v => s.mon.fullCfgValid = v

theorem State.advance_holds_iff (s : State) (a : Assign) : s.advance.Holds a ↔ s.Holds a := by
  cases a <;> simp [State.Holds]

theorem State.assign_holds (s : State) (a : Assign) : (s.assign a).Holds a := by
  cases a <;> rfl

theorem State.assign_holds_iff (s : State) {a b : Assign} (h : a.field ≠ b.field) :
    (s.assign a).Holds b ↔ s.Holds b := by
  cases a <;> cases b <;> simp [Assign.field, State.assign, State.Holds] at h ⊢

/-- A `SET` keeps a field that it does not name. -/
theorem State.assignAll_holds_iff {ps : List Assign} {b : Assign} (h : b.field ∉ ps.map Assign.field) (s : State) :
    (s.assignAll ps).Holds b ↔ s.Holds b := by
  induction ps generalizing s with
  | nil => rfl
  | cons a ps ih =>
    rw [List.map_cons, List.mem_cons, not_or] at h
    obtain ⟨ha, hps⟩ := h
    rw [State.assignAll_cons, ih hps, s.assign_holds_iff (Ne.symm ha)]

/-- A `SET` that names each field at most once writes each of its pairs. -/
theorem State.assignAll_holds {ps : List Assign} {a : Assign} (hd : (ps.map Assign.field).Nodup) (h : a ∈ ps)
    (s : State) : (s.assignAll ps).Holds a := by
  induction ps generalizing s with
  | nil => cases h
  | cons b ps ih =>
    rw [List.map_cons, List.nodup_cons] at hd
    obtain ⟨hb, hps⟩ := hd
    rw [State.assignAll_cons]
    rcases List.mem_cons.mp h with rfl | h
    · exact (State.assignAll_holds_iff hb _).mpr (s.assign_holds a)
    · exact ih hps h _

/-- Settles O35: what a listed pair writes no later pair writes over, and each field that is not listed is kept. -/
theorem setWritesListedFields : Obligations.SetWritesListedFields := by
  intro s ps hd
  have listed {a : Assign} (h : a ∈ ps) : (s.assignAll ps).advance.Holds a :=
    (State.advance_holds_iff _ a).mpr (State.assignAll_holds (of_decide_eq_true hd) h s)
  have kept {α : Type} {pair : α → Assign} {v : α} (kind : ∀ a : Assign, a.field = (pair v).field ↔ ∃ w, a = pair w)
      (h : ∀ w, pair w ∉ ps) (hs : s.Holds (pair v)) : (s.assignAll ps).advance.Holds (pair v) :=
    (State.advance_holds_iff _ _).mpr ((State.assignAll_holds_iff (field_notMem_of_unlisted kind h) s).mpr hs)
  obtain ⟨cfg, regs, fg, bg, fb, fbEra, pins, panel, trace, ctx, env, resultCode, fault⟩ := s.assignAll_frame ps
  refine ⟨(s.assignAll ps).advance, rfl, fun v => listed, fun v => listed, fun v => listed, fun v => listed,
    fun v => listed, fun v => listed, fun h => kept (Assign.field_eq_fsm · _) h rfl,
    fun h => kept (Assign.field_eq_mode · _) h rfl, fun h => kept (Assign.field_eq_updated · _) h rfl,
    fun h => kept (Assign.field_eq_complete · _) h rfl, fun h => kept (Assign.field_eq_monAsleep · _) h rfl,
    fun h => kept (Assign.field_eq_monFullCfgValid · _) h rfl, by simpa using resultCode, by simpa using fault, ?_,
    (s.assignAll ps).advance_moved.of_same ctx fg bg, SameBytes.of_fb (by simpa using fb) (by simpa using fbEra)⟩
  ext1 <;> simp [cfg, regs, fb, fbEra, pins, panel, trace, ctx, env]

end Sys2Proof.Machine
end

section
/-! The expansion of a wire command group (40 R73): the frames of its pairs in order, of which the last alone may be
busy-inducing. -/

namespace Sys2Proof.Machine

/-- Frames of which only the last carries the busy-inducing flag. -/
def flagLast (bi : Bool) (fs : List (FrameKind × List Byte)) : List (FrameKind × List Byte × Bool) :=
  fs.mapIdx fun n f => (f.1, f.2, decide (n + 1 = fs.length) && bi)

theorem flagLast_frames (bi : Bool) (fs : List (FrameKind × List Byte)) :
    (flagLast bi fs).map (fun f => (f.1, f.2.1)) = fs := by
  refine List.ext_getElem (by simp [flagLast]) fun n _ _ => ?_
  simp [flagLast]

theorem flagLast_flag (bi : Bool) (fs : List (FrameKind × List Byte)) (n : Nat) (h : n < (flagLast bi fs).length) :
    (flagLast bi fs)[n].2.2 = (decide (n + 1 = (flagLast bi fs).length) && bi) := by
  simp [flagLast]

/-- Frames in front of others have the flag on none of them. -/
theorem flagLast_append (bi : Bool) (fs : List (FrameKind × List Byte)) {gs : List (FrameKind × List Byte)}
    (h : gs ≠ []) : flagLast bi (fs ++ gs) = flagLast false fs ++ flagLast bi gs := by
  have := List.length_pos_of_ne_nil h
  rw [flagLast, List.mapIdx_append, List.length_append]
  congr 1
  · refine List.mapIdx_eq_mapIdx_iff.mpr fun n hn => ?_
    have : n + 1 ≠ fs.length + gs.length := by omega
    simp [this]
  · refine List.mapIdx_eq_mapIdx_iff.mpr fun n _ => ?_
    have : n + fs.length + 1 = fs.length + gs.length ↔ n + 1 = gs.length := by omega
    simp [this]

theorem pairFrames_ne_nil (p : CmdPair) : pairFrames p ≠ [] := by
  unfold pairFrames
  split <;> simp

/-- The frames of a pair's micro-ops (40 R69, R70). -/
theorem pairOps_frames (bi : Bool) (p : CmdPair) :
    (pairOps bi p).map frameOf = (flagLast bi (pairFrames p)).map some := by
  obtain ⟨op, payload⟩ := p
  cases payload with
  | nil => simp [pairOps, pairFrames, flagLast, frameOf]
  | cons b bs => simp [pairOps, pairFrames, flagLast, frameOf]

/-- The frames of a group's micro-ops. -/
theorem groupOps_frames (bi : Bool) : ∀ ps : List CmdPair,
    (groupOps bi ps).map frameOf = (flagLast bi (ps.flatMap pairFrames)).map some
  | [] => rfl
  | [p] => by
    rw [List.flatMap_singleton]
    exact pairOps_frames bi p
  | p :: q :: ps => by
    have more : (q :: ps).flatMap pairFrames ≠ [] := by simp [List.flatMap_cons, pairFrames_ne_nil]
    rw [groupOps, List.map_append, pairOps_frames, groupOps_frames bi (q :: ps), List.flatMap_cons (xs := q :: ps),
      flagLast_append bi _ more, List.map_append]

theorem groupOps_eq_nil_iff (bi : Bool) (ps : List CmdPair) : groupOps bi ps = [] ↔ ps = [] := by
  rw [← List.length_eq_zero_iff, ← List.length_map (f := frameOf), groupOps_frames]
  cases ps with
  | nil => simp [flagLast]
  | cons p ps => simp [flagLast, pairFrames_ne_nil]

theorem mem_requiredGroups (g : GroupName) : g ∈ requiredGroups ↔ g ≠ .force := by
  cases g <;> decide

/-- In a well-formed configuration only `FORCE` has no pairs (00 R6 WF6). -/
theorem Cfg.group_ne_nil {c : Cfg} (h : c.wf = true) {g : GroupName} (hg : g ≠ .force) : c.wcfg.group g ≠ [] := by
  simp only [Cfg.wf, Bool.and_eq_true] at h
  obtain ⟨-, required⟩ := h
  simpa using List.all_eq_true.mp required g ((mem_requiredGroups g).mpr hg)

/-- Settles O40: the frames are those of the pairs, flagged on the last. -/
theorem groupExpansion : Obligations.GroupExpansion := by
  intro c g
  have empty : c.wcfg.group g = [] ↔ c.group g = [] := (groupOps_eq_nil_iff _ _).symm
  refine ⟨_, groupOps_frames _ _, flagLast_frames _ _, flagLast_flag _ _, empty, fun hc h => ?_⟩
  by_contra hg
  exact Cfg.group_ne_nil hc hg (empty.mpr h)

end Sys2Proof.Machine
end

section
/-! The levels of the pins during one frame (40 R66), and the receiver of 30 R59 that reads the frame back (log 9). -/

namespace Sys2Proof.Machine

/-- The pins while a frame is on the wire: `DC` at the frame's level, `CS` active. -/
def Pins.framed (p : Pins) (c : Cfg) (kind : FrameKind) : Pins := { p with dc := dcLevel c kind, cs := c.csActive }

/-- A frame's levels: `DC`, then `CS` active, the bits, and the pins at rest again. -/
theorem frameWave_eq (c : Cfg) (p : Pins) (kind : FrameKind) (bytes : List Byte) :
    frameWave c p kind bytes = { p with dc := dcLevel c kind } :: p.framed c kind
      :: (wireBits bytes).flatMap (bitWave c (p.framed c kind)) ++ [p.afterFrame c kind bytes] := rfl

/-! ### Bits and bytes -/

theorem bitsToByte_byteBits (b : Byte) :
    bitsToByte (b.getLsbD 7) (b.getLsbD 6) (b.getLsbD 5) (b.getLsbD 4) (b.getLsbD 3) (b.getLsbD 2) (b.getLsbD 1)
      (b.getLsbD 0) = b := by
  revert b
  decide

/-- The bits of a byte list are those bytes again. -/
theorem bitsToBytes_wireBits (bytes : List Byte) : bitsToBytes (wireBits bytes) = bytes := by
  induction bytes with
  | nil => rfl
  | cons b bs ih =>
    have bits : bitsToBytes (wireBits (b :: bs)) = bitsToByte _ _ _ _ _ _ _ _ :: bitsToBytes (wireBits bs) := rfl
    rw [bits, bitsToByte_byteBits, ih]

/-! ### What the receiver takes -/

theorem receivedBits_append (c : Cfg) (v w : List Pins) :
    receivedBits c (v ++ w) = receivedBits c v ++ receivedBits c w := by
  simp [receivedBits]

/-- Of the levels of one bit the receiver takes the one at which `SCLK` is not idle. -/
theorem receivedBits_bitWave {c : Cfg} {p : Pins} (cs : p.cs = c.csActive) (sclk : p.sclk = c.sclkIdle) (b : Bool) :
    receivedBits c (bitWave c p b) = [b] := by
  simp [receivedBits, bitWave, cs, sclk]

theorem receivedBits_bitWaves {c : Cfg} {p : Pins} (cs : p.cs = c.csActive) (sclk : p.sclk = c.sclkIdle)
    (bits : List Bool) : receivedBits c (bits.flatMap (bitWave c p)) = bits := by
  induction bits with
  | nil => rfl
  | cons b bits ih =>
    rw [List.flatMap_cons, receivedBits_append, receivedBits_bitWave cs sclk, ih, List.singleton_append]

/-- A level with `SCLK` idle gives no bit. -/
theorem receivedBits_idle {c : Cfg} {p : Pins} (sclk : p.sclk = c.sclkIdle) (w : List Pins) :
    receivedBits c (p :: w) = receivedBits c w := by
  simp [receivedBits, sclk]

theorem receivedBits_frameWave {c : Cfg} {p : Pins} (sclk : p.sclk = c.sclkIdle) (kind : FrameKind)
    (bytes : List Byte) : receivedBits c (frameWave c p kind bytes) = wireBits bytes := by
  have start : { p with dc := dcLevel c kind }.sclk = c.sclkIdle := sclk
  have framed : (p.framed c kind).sclk = c.sclkIdle := sclk
  rw [frameWave_eq, List.cons_append, receivedBits_idle start, List.cons_append, receivedBits_idle framed,
    receivedBits_append, receivedBits_bitWaves rfl framed, receivedBits_idle (p := p.afterFrame c kind bytes) rfl]
  exact List.append_nil _

theorem receivedKind_frameWave {c : Cfg} {p : Pins} (dc : c.dcCmd ≠ c.dcData) (cs : p.cs = !c.csActive)
    (kind : FrameKind) (bytes : List Byte) : receivedKind c (frameWave c p kind bytes) = some kind := by
  have first : (frameWave c p kind bytes).find? (fun q => q.cs == c.csActive) = some (p.framed c kind) := by
    simp [frameWave_eq, Pins.framed, cs]
  rw [receivedKind, first]
  cases kind with
  | command => simp [Pins.framed, dcLevel]
  | data => simp [Pins.framed, dcLevel, Ne.symm dc]

/-! ### The levels themselves -/

/-- During a frame `RST` does not move, and `DC` has the frame's level. -/
theorem frameWave_levels {c : Cfg} {p q : Pins} {kind : FrameKind} {bytes : List Byte}
    (h : q ∈ frameWave c p kind bytes) : q.rst = p.rst ∧ q.dc = dcLevel c kind := by
  rw [frameWave_eq] at h
  simp only [List.mem_append, List.mem_cons, List.mem_flatMap, List.not_mem_nil, or_false] at h
  rcases h with (rfl | rfl | ⟨b, -, hq⟩) | rfl
  · exact ⟨rfl, rfl⟩
  · exact ⟨rfl, rfl⟩
  · simp only [bitWave, List.mem_cons, List.not_mem_nil, or_false] at hq
    rcases hq with rfl | rfl | rfl <;> exact ⟨rfl, rfl⟩
  · exact ⟨rfl, rfl⟩

/-- Settles O43: the receiver takes one level of each bit, and the bits are the bytes. -/
theorem frameWaveformIsReceived : Obligations.FrameWaveformIsReceived := by
  intro c p kind bytes dc cs sclk
  refine ⟨?_, fun q hq => ?_, ?_, rfl, rfl⟩
  · rw [receiveFrame, receivedKind_frameWave dc cs, receivedBits_frameWave sclk, bitsToBytes_wireBits]
    rfl
  · obtain ⟨rst, level⟩ := frameWave_levels hq
    exact ⟨rst, fun _ => level⟩
  · rw [frameWave_eq]
    exact List.getLast?_concat

end Sys2Proof.Machine
end

section
/-! Runs of the machine (00 R12): a run of several steps, step by step. -/

namespace Sys2Proof.Machine

/-- `n` steps from `s` leave `t`. -/
def Runs (n : Nat) (s t : State) : Prop := Host.Core.run Sys2Proof.core n s = .next t

theorem Runs.none (s : State) : Runs 0 s s := rfl

theorem Runs.step {n : Nat} {s t u : State} (h : step s = .next t) (h' : Runs n t u) : Runs (n + 1) s u := by
  have step : core.step s = .next t := h
  simp only [Runs, Host.Core.run, step]
  exact h'

theorem State.nextTurn_of_turns {s : State} {turn : Turn} {turns : List Turn} (h : s.env.turns = turn :: turns) :
    s.nextTurn = turn ∧ s.afterTurn = { s with env := { s.env with turns := turns } } := by
  simp [State.nextTurn, State.afterTurn, h]

end Sys2Proof.Machine
end

section
/-! A wait ends after the panel's line falls (40 R76, 60 R124, R125), and a refresh that a transport fault has ended
stays in progress (40 R68, 70 R149). -/

namespace Sys2Proof.Machine

/-! ### A wait of an awake panel -/

/-- The panel's fall, where it is busy with nothing pending (60 R124). -/
theorem step_panelFall {s : State} {turns : List Turn} (hd : s.defined = true)
    (hturns : s.env.turns = .panelFall :: turns) (busy : s.panel = { pbusy := true, ppend := false }) :
    step s = .next { s with panel := { pbusy := false, ppend := false }, env := { s.env with turns := turns } } := by
  obtain ⟨turn, after⟩ := State.nextTurn_of_turns hturns
  rw [step_of_defined hd, turn, after, stepAs, State.panelMove, busy]
  rfl

/-- FG's `WAITR` of an awake panel that is not busy advances (40 R76). -/
theorem exec_waitr_ready {s : State} (awake : s.mon.asleep = false) (ready : s.panel.pbusy = false)
    (ctx : s.ctx = .fg) :
    exec .uopWaitr s
      = .next { s with trace := s.trace ++ [.sample false], fg := { s.fg with pc := s.fg.pc + 1 } } := by
  obtain ⟨value, sample⟩ := State.afterSample_awake awake
  have ctx' : s.afterSample.ctx = .fg := s.afterSample_ctx.trans ctx
  rw [exec, execUopWaitr, value, ready, if_neg Bool.false_ne_true, State.advance_of_fg ctx', sample, ready]
  rfl

theorem step_waitr_ready {s : State} {turns : List Turn} (hd : s.defined = true) (hturns : s.env.turns = .fg :: turns)
    (awake : s.mon.asleep = false) (ready : s.panel.pbusy = false) (active : s.fg.active = true)
    (yielded : s.bg.inSegment = false) (hop : s.fgOp = some .waitr) :
    step s = .next { s with
      trace := s.trace ++ [.sample false]
      fg := { s.fg with pc := s.fg.pc + 1 }
      ctx := .fg
      env := { s.env with turns := turns } } := by
  obtain ⟨turn, after⟩ := State.nextTurn_of_turns hturns
  rw [stepRunsCurrentMicroOp.1 s .waitr hd turn active yielded hop, after, MicroOp.toInstr]
  exact exec_waitr_ready awake ready rfl

/-- Settles O60: the step of the panel's fall, then FG's `WAITR`. -/
theorem waitEndsAfterThePanelFalls : Obligations.WaitEndsAfterThePanelFalls := by
  intro s turns hd hturns awake busy active yielded hop
  have fall := step_panelFall hd hturns busy
  exact ⟨_, Runs.step fall (.step (step_waitr_ready hd rfl awake rfl active yielded hop) (.none _)), rfl,
    SameBytes.of_fb rfl rfl⟩

/-! ### A refresh that a transport fault has ended -/

theorem State.stuckBusy_iff (s : State) :
    s.stuckBusy = true ↔ s.refresh.fsm ≠ .idle ∧ s.bg.active = false
      ∧ (s.fg.active = true → s.fgRest.all MicroOp.keepsRefresh = true) := by
  unfold State.stuckBusy
  cases s.fg.active <;> simp [and_assoc]

/-- A micro-op that does not write `FSM` and leaves BG alone keeps a stuck refresh, where FG still writes no refresh
register or is no longer active. -/
theorem State.stuckBusy.of_keeps {s t : State} (h : s.stuckBusy = true) (k : KeepsRefresh s t) (bg : t.bg = s.bg)
    (fg : t.fg.active = true → t.fgRest.all MicroOp.keepsRefresh = true) :
    t.stuckBusy = true ∧ t.refresh.fsm = s.refresh.fsm := by
  rw [State.stuckBusy_iff] at h ⊢
  obtain ⟨busy, idleBg, -⟩ := h
  exact ⟨⟨k.fsm ▸ busy, bg ▸ idleBg, fg⟩, k.fsm⟩

/-- An acceptance during a stuck refresh: a `SHOW` starts nothing, and no other operation starts a refresh. -/
theorem AcceptEffect.stuckBusy {s t : State} {i : Instr} (e : AcceptEffect s t i) (h : s.stuckBusy = true)
    (idleFg : s.fg.active = false) : t.stuckBusy = true ∧ t.refresh.fsm = s.refresh.fsm := by
  obtain ⟨busy, -, -⟩ := s.stuckBusy_iff.mp h
  cases e with
  | finishes q fg bg => exact State.stuckBusy.of_keeps h q.keepsRefresh bg fun ha => by simp [fg, idleFg] at ha
  | selects _ k fg bg => exact State.stuckBusy.of_keeps h k bg fun ha => by simp [fg, idleFg] at ha
  | starts op prog _ _ keeps q fg bg =>
    exact State.stuckBusy.of_keeps h q.keepsRefresh bg fun _ => by rwa [State.fgRest_startedFg fg]
  | showsBlocking idle | showsPartial idle | showsAsync idle => exact absurd idle busy

/-- FG's micro-op during a stuck refresh writes no refresh register, and none that FG has left does. -/
theorem FgEffect.stuckBusy {s t : State} {op : MicroOp} (e : FgEffect s t op) (h : s.stuckBusy = true)
    (active : s.fg.active = true) (hop : s.fgOp = some op) : t.stuckBusy = true ∧ t.refresh.fsm = s.refresh.fsm := by
  obtain ⟨-, -, rest⟩ := s.stuckBusy_iff.mp h
  cases e with
  | advances _ q fg bg =>
    exact State.stuckBusy.of_keeps h q.keepsRefresh bg fun _ => (keepsRefresh_advance hop fg (rest active)).2
  | stays q fg bg =>
    exact State.stuckBusy.of_keeps h q.keepsRefresh bg fun _ => by simpa only [State.fgRest, fg] using rest active
  | sets ps cfg refresh fg bg =>
    obtain ⟨keeps, left⟩ := keepsRefresh_advance hop fg (rest active)
    exact State.stuckBusy.of_keeps h (.of_assignAll keeps cfg refresh) bg fun _ => left
  | aborts q fg bg | ends q fg bg => exact State.stuckBusy.of_keeps h q.keepsRefresh bg fun ha => by simp [fg] at ha

/-- Settles O58: each of the relations of `ControlStep` but block reset keeps a stuck refresh. -/
theorem stuckBusyStays : Obligations.StuckBusyStays := by
  intro s t h hs noReset
  obtain ⟨-, idleBg, rest⟩ := s.stuckBusy_iff.mp h
  cases step_control hs with
  | blockReset turn => exact absurd turn noReset
  | rests _ q fg bg =>
    exact State.stuckBusy.of_keeps h q.keepsRefresh bg fun ha => by simpa only [State.fgRest, fg] using rest (fg ▸ ha)
  | accepts i _ _ idleFg _ e => exact e.stuckBusy h idleFg
  | foreground op _ _ active _ fetched e => exact e.stuckBusy h active fetched
  | background op _ _ active => simp [idleBg] at active

end Sys2Proof.Machine
end

section
/-! The row loop (40 R71, R74): its micro-ops in either context, and the frames that its run sends. The run is followed
micro-op by micro-op, in either context at once; what a whole loop comes to is then a matter of its list. -/

namespace Sys2Proof

/-! ### The micro-ops of the loop -/

theorem Cfg.rowOps_fg (c : Cfg) (src : RowSrc) (r : Nat) : c.rowOps src .fg r = [.row src r] := rfl

theorem Cfg.rowOps_bg (c : Cfg) (src : RowSrc) (r : Nat) :
    c.rowOps src .bg r = if c.yieldBatch ∣ r + 1 then [.row src r, .yieldPoint] else [.row src r] := by
  simp [Cfg.rowOps, Nat.dvd_iff_mod_eq_zero]

theorem Cfg.rows_fg (c : Cfg) (reg : Byte) (src : RowSrc) :
    c.rows reg src .fg = .cmd reg false :: (List.range c.height).map fun r => .row src r := by
  rw [Cfg.rows, List.flatMap_congr fun r _ => c.rowOps_fg src r, List.map_eq_flatMap]

theorem Cfg.rows_bg (c : Cfg) (reg : Byte) (src : RowSrc) :
    c.rows reg src .bg = .cmd reg false :: (List.range c.height).flatMap fun r =>
      if c.yieldBatch ∣ r + 1 then [.row src r, .yieldPoint] else [.row src r] := by
  rw [Cfg.rows, List.flatMap_congr fun r _ => c.rowOps_bg src r]

/-- The first `n` rows in BG come with a `YIELD` for each whole batch. -/
theorem Cfg.length_rowOps_bg (c : Cfg) (src : RowSrc) (n : Nat) :
    ((List.range n).flatMap (c.rowOps src .bg)).length = n + n / c.yieldBatch := by
  induction n with
  | zero => simp
  | succ n ih =>
    rw [List.range_succ, List.flatMap_append, List.length_append, ih, List.flatMap_singleton, Cfg.rowOps_bg,
      Nat.succ_div]
    split <;> simp <;> omega

theorem Cfg.length_rows_bg (c : Cfg) (reg : Byte) (src : RowSrc) :
    (c.rows reg src .bg).length = 1 + c.height + c.height / c.yieldBatch := by
  rw [Cfg.rows, List.length_cons, c.length_rowOps_bg src c.height]
  omega

theorem Cfg.length_rows_fg (c : Cfg) (reg : Byte) (src : RowSrc) : (c.rows reg src .fg).length = c.height + 1 := by
  simp [c.rows_fg]

end Sys2Proof

namespace Sys2Proof.Machine

/-! ### One micro-op of the loop -/

/-- The micro-ops that a row loop is made of, with rows that exist. -/
def loopOp (c : Cfg) : MicroOp → Bool
  | .cmd _ bi => !bi
  | .row _ r => decide (r < c.height)
  | .yieldPoint => true
  | .endProg | .data _ _ _ | .rstp | .waitr | .waitry | .assign _ | .havocFb => false

/-- The bytes that a `ROW` sends (40 R71). -/
def State.rowData (s : State) : RowSrc → Nat → List Byte
  | .fb, r => s.rowBytes r
  | .blank, _ => List.replicate s.cfg.stride 0xFF#8

/-- The events of a micro-op of a row loop, with the bytes of a row as the buffer holds them in `s`. -/
def State.loopEvents (s : State) : MicroOp → List Event
  | .cmd op _ => [.frame .command [op]]
  | .row src r => [.frame .data (s.rowData src r)]
  | .endProg | .data _ _ _ | .rstp | .waitr | .waitry | .yieldPoint | .assign _ | .havocFb => []

/-- BG's segment after micro-ops of a row loop: each leaves BG in it but `YIELD` (40 R78). -/
def segmentAfter (seg : Bool) (ops : List MicroOp) : Bool := ops.foldl (fun _ op => op != .yieldPoint) seg

/-- What steps of a row loop leave, the contexts aside: the trace longer by `es`, the turns and the answers that are
left, and the registers, the panel and the buffer as they were. -/
structure LoopSteps (s t : State) (es : List Event) (turns : List Turn) (answers : List Bool) : Prop where
  trace : t.trace = s.trace ++ es
  env : t.env = { s.env with turns := turns, answers := answers }
  cfg : t.cfg = s.cfg
  regs : t.regs = s.regs
  refresh : t.refresh = s.refresh
  panel : t.panel = s.panel
  fb : t.fb = s.fb
  fbEra : t.fbEra = s.fbEra

theorem LoopSteps.trans {s t u : State} {es es' : List Event} {turns turns' : List Turn} {answers answers' : List Bool}
    (h : LoopSteps s t es turns answers) (h' : LoopSteps t u es' turns' answers') :
    LoopSteps s u (es ++ es') turns' answers' where
  trace := by rw [h'.trace, h.trace, List.append_assoc]
  env := by rw [h'.env, h.env]
  cfg := h'.cfg.trans h.cfg
  regs := h'.regs.trans h.regs
  refresh := h'.refresh.trans h.refresh
  panel := h'.panel.trans h.panel
  fb := h'.fb.trans h.fb
  fbEra := h'.fbEra.trans h.fbEra

/-- The events depend on the configuration and on the buffer. -/
theorem State.loopEvents_congr {s t : State} (cfg : t.cfg = s.cfg) (fb : t.fb = s.fb) (fbEra : t.fbEra = s.fbEra) :
    t.loopEvents = s.loopEvents := by
  have data : t.rowData = s.rowData := by
    funext src r
    cases src <;> simp only [State.rowData, State.rowBytes, cfg, State.memRead_congr fb fbEra]
  funext op
  cases op <;> simp only [State.loopEvents, data]

theorem exec_row {s : State} (src : RowSrc) {r : Nat} (h : r < s.cfg.height) :
    exec (.uopRow src r) s = .next (s.emitOp .data (s.rowData src r) false) := by
  cases src with
  | fb => exact exec_row_fb h
  | blank => exact exec_row_blank s r

/-- A frame micro-op that is not busy-inducing and whose draw is 1. -/
theorem State.emitOp_loop {s : State} {answers : List Bool} (h : s.env.answers = true :: answers) (k : FrameKind)
    (bs : List Byte) : LoopSteps s (s.emitOp k bs false) [.frame k bs] s.env.turns answers
      ∧ ContextMoved s (s.emitOp k bs false) 1 true := by
  have sent : s.answer = true := by simp [State.answer, h]
  refine ⟨?_, (State.emitOp_spec_of_sent sent k bs false).2⟩
  have env : (s.frameSent k bs false).env = s.env.afterAnswer := rfl
  have panel : (s.frameSent k bs false).panel = s.panel := rfl
  rw [State.emitOp, if_pos sent]
  constructor <;> simp [env, panel, Env.afterAnswer, h]

/-- A micro-op of a row loop sends its frame, if it has one, and moves its context on. -/
theorem exec_loopOp {s : State} {op : MicroOp} (hop : loopOp s.cfg op = true) {answers : List Bool}
    (h : s.env.answers = List.replicate (s.loopEvents op).length true ++ answers) :
    ∃ t, exec op.toInstr s = .next t ∧ LoopSteps s t (s.loopEvents op) s.env.turns answers
      ∧ ContextMoved s t 1 (op != .yieldPoint) := by
  cases op with
  | cmd op bi =>
    obtain rfl : bi = false := by simpa [loopOp] using hop
    exact ⟨_, rfl, State.emitOp_loop h .command [op]⟩
  | row src r => exact ⟨_, exec_row src (of_decide_eq_true hop), State.emitOp_loop h .data (s.rowData src r)⟩
  | yieldPoint =>
    obtain ⟨t, runs, frame, moved⟩ := exec_yield s
    refine ⟨t, runs, ?_, moved⟩
    obtain rfl : s.env.answers = answers := h
    rw [frame]
    constructor <;> simp [State.loopEvents]
  | endProg | data | rstp | waitr | waitry | assign | havocFb => cases hop

/-! ### The steps of a context that has the turns -/

/-- A context is enabled as long as its own steps alone are taken (20 R49). -/
def State.mayRun (s : State) : Ctx → Prop
  | .fg => s.fg.active = true ∧ s.bg.inSegment = false
  | .bg => s.bg.active = true ∧ s.fg.active = false

/-- What a context has still to run. -/
def State.rest (s : State) : Ctx → List MicroOp
  | .fg => s.fgRest
  | .bg => s.bgRest

/-- The turn of a context. -/
def ctxTurn : Ctx → Turn
  | .fg => .fg
  | .bg => .bg

theorem getElem?_of_drop {l ops : List MicroOp} {n : Nat} {op : MicroOp} (h : l.drop n = op :: ops) :
    l[n]? = some op := by
  rw [← List.head?_drop, h]
  rfl

theorem drop_succ_of_drop {l ops : List MicroOp} {n : Nat} {op : MicroOp} (h : l.drop n = op :: ops) :
    l.drop (n + 1) = ops := by
  rw [← List.tail_drop, h]
  rfl

theorem step_ctx {s : State} {c : Ctx} {op : MicroOp} {ops : List MicroOp} (hd : s.defined = true)
    (turn : s.nextTurn = ctxTurn c) (may : s.mayRun c) (hop : s.rest c = op :: ops) :
    step s = exec op.toInstr (s.afterTurn.inCtx c) := by
  cases c with
  | fg => exact stepRunsCurrentMicroOp.1 s op hd turn may.1 may.2 (getElem?_of_drop hop)
  | bg => exact stepRunsCurrentMicroOp.2 s op hd turn may.1 (.inr (.inl may.2)) (getElem?_of_drop hop)

section
variable {s t : State} {c : Ctx} {n : Nat} {seg : Bool}

theorem ContextMoved.trans {u : State} {m : Nat} {seg' : Bool} (h : ContextMoved (s.inCtx c) t n seg)
    (h' : ContextMoved (t.inCtx c) u m seg') : ContextMoved (s.inCtx c) u (n + m) seg' := by
  cases c <;> simp_all [ContextMoved, Nat.add_assoc]

theorem ContextMoved.mayRun (h : ContextMoved (s.inCtx c) t n seg) (may : s.mayRun c) : t.mayRun c := by
  cases c <;> simp_all [ContextMoved, State.mayRun]

theorem ContextMoved.rest {op : MicroOp} {ops : List MicroOp} (h : ContextMoved (s.inCtx c) t 1 seg)
    (hop : s.rest c = op :: ops) : t.rest c = ops := by
  cases c with
  | fg =>
    obtain ⟨fg, -⟩ := h
    rw [State.rest, State.fgRest, fg]
    exact drop_succ_of_drop hop
  | bg =>
    obtain ⟨-, bg⟩ := h
    rw [State.rest, State.bgRest, bg]
    exact drop_succ_of_drop hop

end

theorem State.cfg_wf_of_defined {s : State} (h : s.defined = true) : s.cfg.wf = true := by
  rw [State.defined, Bool.and_eq_true] at h
  exact h.1

theorem LoopSteps.defined {s t : State} {es : List Event} {turns : List Turn} {answers : List Bool}
    (h : LoopSteps s t es turns answers) (hd : s.defined = true) : t.defined = true := by
  simpa only [State.defined, State.hostProgramValid, h.cfg, h.env] using hd

/-- A step of a row loop. -/
theorem step_loopOp {s : State} {c : Ctx} {op : MicroOp} {ops : List MicroOp} {turns : List Turn} {answers : List Bool}
    (hd : s.defined = true) (may : s.mayRun c) (rest : s.rest c = op :: ops) (hop : loopOp s.cfg op = true)
    (hturns : s.env.turns = ctxTurn c :: turns)
    (hanswers : s.env.answers = List.replicate (s.loopEvents op).length true ++ answers) :
    ∃ t, step s = .next t ∧ LoopSteps s t (s.loopEvents op) turns answers
      ∧ ContextMoved (s.inCtx c) t 1 (op != .yieldPoint) := by
  obtain ⟨turn, after⟩ := State.nextTurn_of_turns hturns
  have events : (s.afterTurn.inCtx c).loopEvents = s.loopEvents := State.loopEvents_congr (by simp) (by simp) (by simp)
  obtain ⟨t, runs, steps, moved⟩ := exec_loopOp (s := s.afterTurn.inCtx c) (op := op) (answers := answers)
    (by simpa using hop) (by rw [events, after]; exact hanswers)
  rw [events] at steps
  rw [after] at steps moved
  obtain ⟨trace, env, cfg, regs, refresh, panel, fb, fbEra⟩ := steps
  exact ⟨t, (step_ctx hd turn may rest).trans runs, ⟨trace, env, cfg, regs, refresh, panel, fb, fbEra⟩,
    moved.of_same rfl rfl rfl⟩

/-- The run of a context over micro-ops of a row loop, by induction over them. The segment `seg` is BG's: a move of FG
says nothing of it. -/
theorem run_loopOps {c : Ctx} {rest : List MicroOp} {turns : List Turn} {answers : List Bool} (ops : List MicroOp) :
    ∀ {s : State} {seg : Bool}, s.defined = true → s.mayRun c → s.rest c = ops ++ rest →
      ops.all (loopOp s.cfg) = true → (c = .bg → s.bg.inSegment = seg) →
      s.env.turns = List.replicate ops.length (ctxTurn c) ++ turns →
      s.env.answers = List.replicate (ops.flatMap s.loopEvents).length true ++ answers →
        ∃ t, Runs ops.length s t ∧ LoopSteps s t (ops.flatMap s.loopEvents) turns answers
          ∧ ContextMoved (s.inCtx c) t ops.length (segmentAfter seg ops) := by
  induction ops with
  | nil =>
    intro s seg _ _ _ _ hseg hturns hanswers
    obtain rfl : s.env.turns = turns := hturns
    obtain rfl : s.env.answers = answers := hanswers
    refine ⟨s, .none s, ⟨(List.append_nil _).symm, rfl, rfl, rfl, rfl, rfl, rfl, rfl⟩, ?_⟩
    cases c with
    | fg => exact ⟨rfl, rfl⟩
    | bg => simp [ContextMoved, segmentAfter, ← hseg rfl]
  | cons op ops ih =>
    intro s seg hd may hrest hops _ hturns hanswers
    rw [List.all_cons, Bool.and_eq_true] at hops
    rw [List.flatMap_cons, List.length_append, List.replicate_add, List.append_assoc] at hanswers
    obtain ⟨u, runs, first, moved⟩ := step_loopOp hd may hrest hops.1 hturns hanswers
    have events : u.loopEvents = s.loopEvents := State.loopEvents_congr first.cfg first.fb first.fbEra
    obtain ⟨t, runs', steps, moved'⟩ := ih (s := u) (seg := op != .yieldPoint) (first.defined hd) (moved.mayRun may)
      (moved.rest hrest) (first.cfg ▸ hops.2) (by rintro rfl; simp [moved.2]) (by rw [first.env]; rfl)
      (by rw [first.env, events])
    refine ⟨t, runs'.step runs, ?_, ?_⟩
    · rw [events] at steps
      exact first.trans steps
    · rw [List.length_cons, Nat.add_comm]
      exact moved.trans moved'

/-! ### The whole loop -/

/-- The events of a row loop: a command frame, and a data frame for each row (40 R74). -/
def State.rowPass (s : State) (reg : Byte) (src : RowSrc) : List Event :=
  .frame .command [reg] :: (List.range s.cfg.height).map fun r => .frame .data (s.rowData src r)

theorem State.loopEvents_rows (s : State) (reg : Byte) (src : RowSrc) (c : Ctx) :
    (s.cfg.rows reg src c).flatMap s.loopEvents = s.rowPass reg src := by
  have row (r : Nat) : (s.cfg.rowOps src c r).flatMap s.loopEvents = [.frame .data (s.rowData src r)] := by
    unfold Cfg.rowOps
    split <;> rfl
  rw [Cfg.rows, List.flatMap_cons, List.flatMap_assoc, List.flatMap_congr fun r _ => row r, ← List.map_eq_flatMap]
  rfl

theorem rows_loopOp (c : Cfg) (reg : Byte) (src : RowSrc) (ctx : Ctx) : (c.rows reg src ctx).all (loopOp c) = true := by
  rw [Cfg.rows, List.all_cons, List.all_flatMap, Bool.and_eq_true, List.all_eq_true]
  refine ⟨rfl, fun r hr => ?_⟩
  unfold Cfg.rowOps
  split <;> simp [loopOp, List.mem_range.mp hr]

theorem segmentAfter_append (seg : Bool) (ops ops' : List MicroOp) :
    segmentAfter seg (ops ++ ops') = segmentAfter (segmentAfter seg ops) ops' := List.foldl_append

/-- The loop in BG ends its segment exactly if its last row ends a batch. -/
theorem segmentAfter_rows {c : Cfg} (h : 1 ≤ c.height) (seg : Bool) (reg : Byte) (src : RowSrc) :
    segmentAfter seg (c.rows reg src .bg) = decide (c.height % c.yieldBatch ≠ 0) := by
  obtain ⟨n, hn⟩ := Nat.exists_eq_add_of_le' h
  rw [Cfg.rows, hn, List.range_succ, List.flatMap_append, List.flatMap_singleton, ← List.cons_append,
    segmentAfter_append, Cfg.rowOps_bg]
  split
  · next h => simp [segmentAfter, Nat.mod_eq_zero_of_dvd h]
  · next h => simp [segmentAfter, mt Nat.dvd_of_mod_eq_zero h]

/-- The run of a row loop in either context. -/
theorem run_rows {s : State} {c : Ctx} {reg : Byte} {src : RowSrc} {rest : List MicroOp} {turns : List Turn}
    {answers : List Bool} (hd : s.defined = true) (may : s.mayRun c) (hrest : s.rest c = s.cfg.rows reg src c ++ rest)
    (hturns : s.env.turns = List.replicate (s.cfg.rows reg src c).length (ctxTurn c) ++ turns)
    (hanswers : s.env.answers = List.replicate (s.cfg.height + 1) true ++ answers) :
    ∃ t, Runs (s.cfg.rows reg src c).length s t ∧ LoopSteps s t (s.rowPass reg src) turns answers
      ∧ ContextMoved (s.inCtx c) t (s.cfg.rows reg src c).length
          (segmentAfter s.bg.inSegment (s.cfg.rows reg src c)) := by
  have events := s.loopEvents_rows reg src c
  have count : (s.rowPass reg src).length = s.cfg.height + 1 := by simp [State.rowPass]
  have run := run_loopOps _ hd may hrest (rows_loopOp s.cfg reg src c) (fun _ => rfl) hturns
    (by rw [events, count]; exact hanswers)
  rwa [events] at run

/-- The bytes of a row, spelled out. -/
theorem State.rowData_eq (s : State) (r : Nat) :
    s.rowData .fb r = (List.range s.cfg.stride).map (fun k => s.memRead (r * s.cfg.stride + k) ^^^ 0xFF#8)
      ∧ s.rowData .blank r = (List.range s.cfg.stride).map fun _ => 0xFF#8 :=
  ⟨s.rowBytes_eq r, (blankBytes_eq s.cfg).symm⟩

/-- Settles O42: the micro-ops by `Cfg.rowOps`, the two runs by `run_rows`. -/
theorem rowPassSendsEveryRow : Obligations.RowPassSendsEveryRow := by
  unfold Obligations.RowPassSendsEveryRow
  intro sent
  have pass (s : State) (reg : Byte) (src : RowSrc) : s.rowPass reg src = sent s reg src := by
    refine congrArg (List.cons _) (List.map_congr_left fun r _ => congrArg (Event.frame .data) ?_)
    obtain ⟨fb, blank⟩ := s.rowData_eq r
    cases src with
    | fb => exact fb
    | blank => exact blank
  refine ⟨fun c reg src => ⟨c.rows_fg reg src, c.rows_bg reg src, fun _ => c.length_rows_bg reg src⟩, ?_, ?_⟩
  · intro s reg src rest turns answers hd active yielded hrest hturns hanswers
    have length := s.cfg.length_rows_fg reg src
    obtain ⟨t, runs, steps, fg, bg⟩ := run_rows (c := .fg) hd ⟨active, yielded⟩ hrest (length ▸ hturns) hanswers
    rw [length] at runs fg
    exact ⟨t, runs, pass s reg src ▸ steps.trace, fg, bg, steps.regs, steps.refresh, steps.panel, steps.env,
      SameBytes.of_fb steps.fb steps.fbEra⟩
  · intro s reg src rest turns answers n hd active idleFg hrest hturns hanswers
    have length : (s.cfg.rows reg src .bg).length = n := s.cfg.length_rows_bg reg src
    obtain ⟨t, runs, steps, fg, bg⟩ := run_rows (c := .bg) hd ⟨active, idleFg⟩ hrest (length ▸ hturns) hanswers
    obtain ⟨-, -, height, -⟩ := Cfg.wf_bounds (State.cfg_wf_of_defined hd)
    rw [length] at runs bg
    rw [segmentAfter_rows height] at bg
    exact ⟨t, runs, pass s reg src ▸ steps.trace, bg, fg, steps.regs, steps.refresh, steps.panel, steps.env,
      SameBytes.of_fb steps.fb steps.fbEra⟩

end Sys2Proof.Machine
end

section
/-! The wire frames of a group's pairs determine the pairs (30 R60, 40 R73): a command frame begins each pair, so the
two border codes, which 00 R6 keeps apart, differ on the wire (41 R92). -/

namespace Sys2Proof.Machine

/-- The frames of a list of pairs do not begin with a payload. -/
theorem flatMap_pairFrames_ne_data (ps : List CmdPair) (bs : List Byte) (rest : List (FrameKind × List Byte)) :
    ps.flatMap pairFrames ≠ (.data, bs) :: rest := by
  cases ps with
  | nil => simp
  | cons p ps =>
    rw [List.flatMap_cons, pairFrames]
    split <;> simp

theorem flatMap_pairFrames_injective : ∀ {ps qs : List CmdPair},
    ps.flatMap pairFrames = qs.flatMap pairFrames → ps = qs
  | [], [], _ => rfl
  | [], q :: qs, h => by simp [List.flatMap_cons, pairFrames_ne_nil] at h
  | p :: ps, [], h => by simp [List.flatMap_cons, pairFrames_ne_nil] at h
  | (op, []) :: ps, (op', []) :: qs, h => by
    simp only [List.flatMap_cons, pairFrames, if_true, List.cons_append, List.nil_append, List.cons.injEq,
      Prod.mk.injEq, true_and, and_true] at h
    obtain ⟨rfl, rest⟩ := h
    rw [flatMap_pairFrames_injective rest]
  | (op, []) :: ps, (op', b :: bs) :: qs, h => by
    simp [List.flatMap_cons, pairFrames, flatMap_pairFrames_ne_data] at h
  | (op, b :: bs) :: ps, (op', []) :: qs, h => by
    simp [List.flatMap_cons, pairFrames, (flatMap_pairFrames_ne_data _ _ _).symm] at h
  | (op, b :: bs) :: ps, (op', b' :: bs') :: qs, h => by
    simp only [List.flatMap_cons, pairFrames, reduceCtorEq, if_false, List.cons_append, List.nil_append, List.cons.injEq,
      Prod.mk.injEq, true_and, and_true] at h
    obtain ⟨rfl, ⟨rfl, rfl⟩, rest⟩ := h
    rw [flatMap_pairFrames_injective rest]

/-- The frames of a group's micro-ops, as a list. -/
theorem groupOps_filterMap_frameOf (bi : Bool) (ps : List CmdPair) :
    (groupOps bi ps).filterMap frameOf = flagLast bi (ps.flatMap pairFrames) := by
  simpa [List.filterMap_map] using congrArg (List.filterMap id) (groupOps_frames bi ps)

/-- What a group's expansion sends, whether or not it is busy-inducing, is the frames of its pairs. -/
theorem Cfg.group_frames (c : Cfg) (g : GroupName) :
    (c.group g).filterMap (fun m => (frameOf m).map fun f => (f.1, f.2.1)) = (c.wcfg.group g).flatMap pairFrames := by
  rw [← List.map_filterMap, Cfg.group, groupOps_filterMap_frameOf, flagLast_frames]

/-- The two border codes of a well-formed configuration differ (00 R6 WF4). -/
theorem Cfg.border_ne {c : Cfg} (h : c.wf = true) : c.wcfg.borderFull ≠ c.wcfg.borderPartial := by
  simp only [Cfg.wf, Bool.and_eq_true] at h
  obtain ⟨⟨⟨-, border⟩, -⟩, -⟩ := h
  simpa using border

/-- Settles O41: the frames of the two groups are those of their pairs, which determine the pairs. -/
theorem borderFramesDiffer : Obligations.BorderFramesDiffer := by
  intro c h
  rw [Cfg.group_frames, Cfg.group_frames]
  exact fun same => Cfg.border_ne h (flatMap_pairFrames_injective same)

end Sys2Proof.Machine
end

section
/-! While construction runs, `FSM` is `Idle`, no event has been raised and BG does not exist (41 R98). -/

namespace Sys2Proof.Machine

/-- FG runs the construction program (10 R28, 41 R98). -/
def State.constructing (s : State) : Prop := s.fg.active = true ∧ s.fg.op = .construct

theorem State.constructInv_iff (s : State) :
    s.constructInv = true ↔ (s.constructing →
      (s.refresh.fsm = .idle ∧ s.refresh.updated = false ∧ s.refresh.complete = false)
        ∧ (s.bg.active = false ∧ s.bg.inSegment = false) ∧ s.fgRest.all MicroOp.keepsRefresh = true) := by
  unfold State.constructInv State.constructing
  cases s.fg.active <;> simp [and_assoc, ← imp_iff_not_or]

/-- A step that keeps the refresh registers and BG keeps the invariant, where construction was running before if it is
now, with a rest that writes no refresh register. -/
theorem State.constructInv_of_keeps {s t : State} (h : s.constructInv = true) (k : KeepsRefresh s t) (bg : t.bg = s.bg)
    (fg : t.constructing → s.constructing
      ∧ (s.fgRest.all MicroOp.keepsRefresh = true → t.fgRest.all MicroOp.keepsRefresh = true)) :
    t.constructInv = true := by
  rw [State.constructInv_iff] at h ⊢
  intro running
  obtain ⟨ran, rest⟩ := fg running
  obtain ⟨refresh, noBg, keeps⟩ := h ran
  rw [k.fsm, k.updated, k.complete, bg]
  exact ⟨refresh, noBg, rest keeps⟩

theorem State.constructInv_of_same {s t : State} (h : s.constructInv = true) (k : KeepsRefresh s t) (fg : t.fg = s.fg)
    (bg : t.bg = s.bg) : t.constructInv = true :=
  State.constructInv_of_keeps h k bg fun running =>
    ⟨by simpa only [State.constructing, fg] using running, fun keeps => by simpa only [State.fgRest, fg] using keeps⟩

theorem State.constructInv_of_not_constructing {s : State} (h : ¬ s.constructing) : s.constructInv = true :=
  s.constructInv_iff.mpr fun running => absurd running h

theorem State.not_constructing_of_inactive {s : State} (h : s.fg.active = false) : ¬ s.constructing := by
  simp [State.constructing, h]

/-- After the acceptance of a host operation FG does not run construction: it runs nothing, or a host operation. -/
theorem AcceptEffect.not_constructing {s t : State} {i : Instr} (e : AcceptEffect s t i) (idleFg : s.fg.active = false) :
    ¬ t.constructing := by
  cases e with
  | finishes _ fg | selects _ _ fg | showsAsync _ _ _ _ _ fg =>
    exact State.not_constructing_of_inactive (fg ▸ idleFg)
  | starts _ _ _ _ _ _ fg | showsBlocking _ _ _ _ _ fg | showsPartial _ _ _ _ fg =>
    simp [State.constructing, fg, startedFg]

/-- FG's micro-op during construction writes none of `FSM`, `UPDATED`, `COMPLETE`. -/
theorem FgEffect.constructInv {s t : State} {op : MicroOp} (e : FgEffect s t op) (h : s.constructInv = true)
    (active : s.fg.active = true) (hop : s.fgOp = some op) : t.constructInv = true := by
  cases e with
  | advances _ q fg bg =>
    exact State.constructInv_of_keeps h q.keepsRefresh bg fun running =>
      ⟨⟨active, by simpa [fg] using running.2⟩, fun keeps => (keepsRefresh_advance hop fg keeps).2⟩
  | stays q fg bg => exact State.constructInv_of_same h q.keepsRefresh fg bg
  | sets ps cfg refresh fg bg =>
    by_cases running : s.constructing
    · obtain ⟨-, -, rest⟩ := s.constructInv_iff.mp h running
      obtain ⟨keeps, left⟩ := keepsRefresh_advance hop fg rest
      exact State.constructInv_of_keeps h (.of_assignAll keeps cfg refresh) bg fun _ => ⟨running, fun _ => left⟩
    · exact State.constructInv_of_not_constructing (by simpa [State.constructing, fg] using running)
  | aborts _ fg | ends _ fg =>
    exact State.constructInv_of_not_constructing (State.not_constructing_of_inactive (by rw [fg]))

/-- Settles O53: by `ControlStep`. Construction holds back the host and has no BG, so it is FG that moves it on. -/
theorem constructionStaysIdle : Obligations.ConstructionStaysIdle := by
  intro s t h hs
  cases step_control hs with
  | blockReset _ eq => rw [eq]; exact State.atReset_constructInv ..
  | rests _ q fg bg => exact State.constructInv_of_same h q.keepsRefresh fg bg
  | accepts i _ _ idleFg _ e => exact State.constructInv_of_not_constructing (e.not_constructing idleFg)
  | foreground op _ _ active _ fetched e => exact e.constructInv h active fetched
  | background op _ _ active _ e =>
    refine State.constructInv_of_not_constructing fun running => ?_
    obtain ⟨-, ⟨noBg, -⟩, -⟩ := s.constructInv_iff.mp h (by simpa [State.constructing, e.fg] using running)
    simp [noBg] at active

end Sys2Proof.Machine
end

section
/-! The acceptance of the refresh operations (41 R84 to R97) and of `WAIT_READY` (42 R100): what each does while a
refresh is in progress and while `Idle`. -/

namespace Sys2Proof

/-! ### The programs, spelled out -/

theorem Cfg.pInit_eq (c : Cfg) (f : Bool) :
    c.pInit f = ([.rstp, .waitr] : List MicroOp) ++ c.group .swreset ++ ([.waitr] : List MicroOp) ++ c.group .dem
      ++ c.group .borderFull ++ c.group .window ++ c.group .cursor ++ (if f then c.group .force else [])
      ++ ([.waitr] : List MicroOp) ++ ([.assign [.mode .fullMode, .monFullCfgValid true], .endProg] : List MicroOp) := by
  simp [Cfg.pInit, Cfg.initBody]

theorem Cfg.pFullBlk_eq (c : Cfg) :
    c.pFullBlk = c.rows c.wcfg.writeCur .fb .fg ++ c.rows c.wcfg.writePrev .fb .fg ++ c.group .actFull
      ++ ([.waitr, .assign [.fsm .idle], .endProg] : List MicroOp) := by
  simp [Cfg.pFullBlk]

theorem Cfg.pFullAsync_eq (c : Cfg) :
    c.pFullAsync = c.rows c.wcfg.writeCur .fb .bg ++ c.rows c.wcfg.writePrev .fb .bg ++ c.group .actFull
      ++ ([.assign [.updated true], .waitry, .assign [.fsm .idle, .complete true], .endProg] : List MicroOp) := by
  simp [Cfg.pFullAsync]

theorem Cfg.pPart_eq (c : Cfg) :
    c.pPart = c.group .borderPartial ++ c.group .ducPartial ++ c.group .window ++ c.group .cursor
      ++ c.rows c.wcfg.writeCur .fb .fg ++ c.group .actPartial
      ++ ([.waitr, .assign [.fsm .idle], .endProg] : List MicroOp) := by
  simp [Cfg.pPart]

theorem Cfg.pClear_eq (c : Cfg) :
    c.pClear = c.rows c.wcfg.writeCur .blank .fg ++ c.rows c.wcfg.writePrev .blank .fg
      ++ ([.havocFb, .endProg] : List MicroOp) := by
  simp [Cfg.pClear, Cfg.clearBody]

end Sys2Proof

namespace Sys2Proof.Machine

/-! ### The state check -/

theorem State.requireIdle_of_busy {s : State} (h : s.refresh.fsm ≠ .idle) (op : BitVec 4) (accepted : State) :
    s.requireIdle op accepted = s.finishFaulted (.host op) fNotIdle := by
  rw [State.requireIdle, if_pos (s.busy_iff.mpr h)]

theorem State.requireIdle_of_idle {s : State} (h : s.refresh.fsm = .idle) (op : BitVec 4) (accepted : State) :
    s.requireIdle op accepted = accepted := by
  rw [State.requireIdle, if_neg (s.busy_iff.not_left.mpr h)]

/-- An outcome that leaves the frame buffer alone, in the form of the statements: the next state, given by an equation
to state it in the spec's terms, and every byte as before. -/
theorem next_sameBytes {r : Result} {s t : State} (h : r = .next t) (fb : t.fb = s.fb) (fbEra : t.fbEra = s.fbEra) :
    ∃ u, r = .next u ∧ u = t ∧ SameBytes s u :=
  ⟨t, h, rfl, .of_fb fb fbEra⟩

/-! ### The operations that require `Idle` -/

/-- Settles O16: each of the five is a `requireIdle`. -/
theorem idleOnlyOperationsFaultWhileBusy : Obligations.IdleOnlyOperationsFaultWhileBusy := by
  intro s i op busy hi
  have faults (accepted : State) : s.requireIdle op accepted = s.finishFaulted (.host op) fNotIdle :=
    State.requireIdle_of_busy busy op accepted
  have runs : exec i s = .next (s.finishFaulted (.host op) fNotIdle) := by
    simp only [List.mem_cons, Prod.mk.injEq, List.not_mem_nil, or_false] at hi
    rcases hi with ⟨rfl, rfl⟩ | ⟨rfl, rfl⟩ | ⟨rfl, rfl⟩ | ⟨rfl, rfl⟩ | ⟨rfl, rfl⟩ <;> exact congrArg _ (faults _)
  exact next_sameBytes runs rfl rfl

/-- Settles O17: `P_INIT(f)` is what `State.startFg` starts. -/
theorem initFullStartsItsProgram : Obligations.InitFullStartsItsProgram := by
  intro s idle
  have runs : exec .initFull s = .next (s.startFg 0x1 (s.cfg.pInit s.opF)) :=
    congrArg _ (State.requireIdle_of_idle idle ..)
  rw [Cfg.pInit_eq] at runs
  exact next_sameBytes runs rfl rfl

/-- Settles O18: the state check passes, and the capability check decides `SELECT_PARTIAL`. -/
theorem modeSelection : Obligations.ModeSelection := by
  intro s idle
  have full : exec .selectFull s = .next (s.selectMode 0x2 .fullMode) := congrArg _ (State.requireIdle_of_idle idle ..)
  have part : exec .selectPartial s = .next
      (if s.cfg.partialSupported then s.selectMode 0x3 .partialMode else s.finish (.host 0x3) .unsupported) :=
    congrArg _ (State.requireIdle_of_idle idle ..)
  refine ⟨next_sameBytes full rfl rfl, fun supported => ?_, fun unsupported => ?_⟩
  · rw [if_pos supported] at part
    exact next_sameBytes part rfl rfl
  · rw [if_neg (Bool.eq_false_iff.mp unsupported)] at part
    exact next_sameBytes part rfl rfl

/-! ### `SHOW` -/

/-- Settles O19: the state check of `SHOW` comes first. -/
theorem showWhileBusyIsRejected : Obligations.ShowWhileBusyIsRejected := by
  intro s busy
  have runs : exec .showRefresh s = .next (s.finish (.host 0x4) .busy) :=
    congrArg _ (if_pos (s.busy_iff.mpr busy))
  exact next_sameBytes runs rfl rfl

/-- The three refreshes that a `SHOW` starts while `Idle` (41 R88). -/
theorem exec_show_of_idle {s : State} (idle : s.refresh.fsm = .idle) :
    (s.refresh.mode = .fullMode → s.cfg.asyncRuntime = false → exec .showRefresh s = .next s.showFullBlocking)
      ∧ (s.refresh.mode = .fullMode → s.cfg.asyncRuntime = true → exec .showRefresh s = .next s.showFullAsync)
      ∧ (s.refresh.mode = .partialMode → exec .showRefresh s = .next s.showPartial) := by
  have notBusy : s.busy = false := by simp [State.busy, idle]
  refine ⟨fun mode runtime => ?_, fun mode runtime => ?_, fun mode => ?_⟩
  · simp [exec, execShow, notBusy, mode, runtime]
  · simp [exec, execShow, notBusy, mode, runtime]
  · simp [exec, execShow, notBusy, mode]

/-- The monitor records `M_NOINIT` where no full initialisation is valid (60 R123). -/
theorem State.checkFullInit_eq (s : State) :
    s.checkFullInit = { s with mon :=
      { s.mon with fault := if s.mon.fullCfgValid then s.mon.fault else s.mon.fault ||| 0b010#3 } } := by
  unfold State.checkFullInit
  generalize s.mon = m
  obtain ⟨asleep, valid, fault⟩ := m
  cases valid <;> simp [Monitor.record, mNoInit]

/-- Settles O20: each of the three refreshes, with what the monitor records and its program spelled out. -/
theorem showStartsRefresh : Obligations.ShowStartsRefresh := by
  intro s idle checked
  obtain ⟨blocking, async, part⟩ := exec_show_of_idle idle
  refine ⟨fun mode runtime => ?_, fun mode runtime => ?_, fun mode => ?_⟩
  · have runs := blocking mode runtime
    rw [State.showFullBlocking, State.checkFullInit_eq, Cfg.pFullBlk_eq] at runs
    exact next_sameBytes runs rfl rfl
  · have runs := async mode runtime
    rw [State.showFullAsync, State.checkFullInit_eq, Cfg.pFullAsync_eq] at runs
    exact next_sameBytes runs rfl rfl
  · have runs := part mode
    rw [State.showPartial, Cfg.pPart_eq] at runs
    exact next_sameBytes runs rfl rfl

/-! ### The blocking operations -/

/-- Settles O21: `CLEAR` and `SLEEP` require `Idle`, `RESET` and `WAIT_READY` do not. -/
theorem blockingOperationsStartTheirPrograms : Obligations.BlockingOperationsStartTheirPrograms := by
  intro s started
  refine ⟨fun idle => ?_, fun idle => ?_, ?_, ?_⟩
  · have runs : exec .clear s = .next (s.startFg 0x5 s.cfg.pClear) := congrArg _ (State.requireIdle_of_idle idle ..)
    rw [Cfg.pClear_eq] at runs
    exact next_sameBytes runs rfl rfl
  · have runs : exec .sleep s = .next (s.startFg 0x6 s.cfg.pSleep) := congrArg _ (State.requireIdle_of_idle idle ..)
    exact next_sameBytes runs rfl rfl
  · exact next_sameBytes (t := s.startFg 0x7 pReset) rfl rfl rfl
  · exact next_sameBytes (t := s.startFg 0x8 pWait) rfl rfl rfl

end Sys2Proof.Machine
end

section
/-! No operation of the host ends, pauses or changes a refresh in BG, and what alone ends it (42 R106). -/

namespace Sys2Proof.Machine

/-! ### The host and FG leave BG as it is -/

/-- An accepted operation leaves an active BG as it is: a `SHOW` starts BG only from `Idle`, where there is none. -/
theorem AcceptEffect.bg_of_active {s t : State} {i : Instr} (e : AcceptEffect s t i) (h : s.RefreshInv)
    (active : s.bg.active = true) (yielded : s.bg.inSegment = false) : t.bg = s.bg := by
  cases e with
  | finishes _ _ bg | selects _ _ _ bg | starts _ _ _ _ _ _ _ bg | showsBlocking _ _ _ _ _ _ bg
  | showsPartial _ _ _ _ _ bg => exact bg
  | showsAsync idle => exact absurd (h.no_bg yielded idle) (by simp [active])

theorem step_bg_of_host_or_fg {s t : State} (h : s.RefreshInv) (active : s.bg.active = true)
    (turn : s.nextTurn = .host ∨ s.nextTurn = .fg) (hs : step s = .next t) : t.bg = s.bg := by
  cases step_control hs with
  | blockReset other | background _ other => simp [other] at turn
  | rests _ _ _ bg => exact bg
  | accepts _ _ _ _ yielded e => exact e.bg_of_active h active yielded
  | foreground _ _ _ _ _ _ e => exact e.bg

/-! ### What ends BG -/

theorem State.advance_bg_active (s : State) : s.advance.bg.active = s.bg.active := by
  unfold State.advance; split <;> rfl

theorem State.stay_bg_active (s : State) : s.stay.bg.active = s.bg.active := by
  unfold State.stay; split <;> rfl

/-- A frame micro-op that ends BG has failed (40 R67, R68). -/
theorem State.emitOp_bg_ended {s : State} {k : FrameKind} {bs : List Byte} {bi : Bool} (active : s.bg.active = true)
    (ended : (s.emitOp k bs bi).bg.active = false) : FailedFrame s (s.emitOp k bs bi) k bs := by
  rcases s.emitOp_cases k bs bi with ⟨-, e⟩ | ⟨-, e⟩ <;> rw [e] at ended ⊢
  · simp [State.advance_bg_active, active] at ended
  · exact s.frameFailed_spec k bs

/-- A micro-op that ends BG is `END`, or a frame that has failed: every other one leaves BG active. -/
theorem exec_bg_ended {s t : State} {op : MicroOp} (active : s.bg.active = true) (he : exec op.toInstr s = .next t)
    (ended : t.bg.active = false) : op = .endProg ∨ ∃ k bs, FailedFrame s t k bs := by
  cases op with
  | endProg => exact .inl rfl
  | cmd | data => cases he; exact .inr ⟨_, _, State.emitOp_bg_ended active ended⟩
  | row src r =>
    cases src with
    | blank => cases he; exact .inr ⟨_, _, State.emitOp_bg_ended active ended⟩
    | fb =>
      simp only [MicroOp.toInstr, exec, execUopRow] at he
      split at he
      · cases he; exact .inr ⟨_, _, State.emitOp_bg_ended active ended⟩
      · cases he
  | rstp | havocFb => cases he; simp [State.advance_bg_active, active] at ended
  | waitr | waitry =>
    cases he
    split at ended <;> simp [State.advance_bg_active, State.stay_bg_active, active] at ended
  | yieldPoint =>
    cases he
    split at ended <;> simp [State.advance_bg_active, active] at ended
  | assign ps =>
    cases he
    obtain ⟨-, -, -, bg, -⟩ := s.assignAll_frame ps
    simp [State.advance_bg_active, bg, active] at ended

/-- A step that ends BG, besides block reset, is BG's `END` or a frame of BG that has failed. The frame's account is of
the state in which BG's micro-op was executed. -/
theorem step_bg_ended {s t : State} (hs : step s = .next t) (noReset : s.nextTurn ≠ .blockReset)
    (active : s.bg.active = true) (ended : t.bg.active = false) :
    s.nextTurn = .bg ∧ (s.executes = some .uopEnd ∨ ∃ k bs, FailedFrame (s.afterTurn.inCtx .bg) t k bs) := by
  have kept {p : Prop} (bg : t.bg = s.bg) : p := by rw [bg, active] at ended; cases ended
  cases step_control hs with
  | blockReset turn => exact absurd turn noReset
  | rests _ _ _ bg => exact kept bg
  | accepts _ _ _ _ _ e =>
    cases e with
    | finishes _ _ bg | selects _ _ _ bg | starts _ _ _ _ _ _ _ bg | showsBlocking _ _ _ _ _ _ bg
    | showsPartial _ _ _ _ _ bg => exact kept bg
    | showsAsync _ _ _ _ _ _ bg => rw [bg] at ended; cases ended
  | foreground _ _ _ _ _ _ e => exact kept e.bg
  | background op turn runs _ fetched =>
    refine ⟨turn, ?_⟩
    have e := s.afterTurn_sameControl
    obtain ⟨-, -, he⟩ := step_next hs
    rw [turn] at he
    rcases bgStep_next he with ⟨-, rfl⟩ | ⟨-, op', hop', he⟩
    · exact kept e.bg
    · obtain rfl : op' = op := by rw [State.bgOp, e.bg, ← State.bgOp, fetched] at hop'; exact (Option.some.inj hop').symm
      rcases exec_bg_ended (by simpa using active) he ended with rfl | failed
      · exact .inl runs
      · exact .inr failed

/-- Settles O59: the host and FG by the relations of `ControlStep`, the end of BG by the micro-op that ends it. -/
theorem noHostOperationChangesBackground : Obligations.NoHostOperationChangesBackground := by
  refine ⟨fun s t h active turn hs => step_bg_of_host_or_fg h active turn hs, fun s => ⟨_, rfl, rfl, rfl⟩,
    fun s t hs noReset active ended => ?_⟩
  obtain ⟨turn, runs | ⟨k, bs, failed⟩⟩ := step_bg_ended hs noReset active ended
  · exact ⟨turn, .inl runs⟩
  · obtain ⟨trace, -, -, bg⟩ := failed.background rfl
    have e := s.afterTurn_sameControl.trans (s.afterTurn.inCtx_sameControl .bg)
    rw [e.trace] at trace
    rw [e.bg] at bg
    exact ⟨turn, .inr ⟨k, bs, trace, by simp [failed.regs], bg⟩⟩

end Sys2Proof.Machine
end

section
/-! The two events of a refresh (42 R103, R104): which steps raise and clear `UPDATED` and `COMPLETE`, and what BG has
sent when it raises `UPDATED`. The `SET`s that the contexts can stand at decide it: they are known both from the laws
of the refresh state machine and from the programs of the operations. -/

namespace Sys2Proof.Machine

/-! ### The `SET`s of the contexts -/

/-- A `SET` that FG's programs hold: it writes none of `FSM`, `UPDATED`, `COMPLETE`, or ends a blocking refresh. -/
def IsFgSet (ps : List Assign) : Prop := ps.all Assign.keepsRefresh = true ∨ ps = [.fsm .idle]

/-- A `SET` of `P_FULL_ASYNC`: it raises `UPDATED`, or ends the refresh with `COMPLETE` (42 R102). -/
def IsBgSet (ps : List Assign) : Prop := ps = [.updated true] ∨ ps = [.fsm .idle, .complete true]

/-- Where an active context stands at a `SET`, it is one of the machine's programs. -/
structure State.AtOwnSets (s : State) : Prop where
  fg : ∀ ps, s.fg.active = true → s.fgOp = some (.assign ps) → IsFgSet ps
  bg : ∀ ps, s.bg.active = true → s.bgOp = some (.assign ps) → IsBgSet ps

theorem State.RefreshInv.atOwnSets {s : State} (h : s.RefreshInv) : s.AtOwnSets where
  fg := fun _ active hop => (h.fgSet active hop).imp And.right And.left
  bg := fun _ active hop => (State.bgPhases.sets (h.bgPhase active).2 hop).imp And.left And.left

theorem isFgSet_of_keepsRefresh {prog : List MicroOp} {ps : List Assign} (h : prog.all MicroOp.keepsRefresh = true)
    (mem : .assign ps ∈ prog) : IsFgSet ps :=
  .inl (List.all_eq_true.mp h _ mem)

/-- The one `SET` of a blocking refresh ends it (41 R89, R91). -/
theorem isFgSet_of_blocking {prog : List MicroOp} {ps : List Assign}
    (split : ∃ pre, prog = pre ++ blockingTail ∧ pre.all MicroOp.quiet = true) (mem : .assign ps ∈ prog) :
    IsFgSet ps := by
  obtain ⟨pre, rfl, quiet⟩ := split
  rcases List.mem_append.mp mem with inPre | inTail
  · cases List.all_eq_true.mp quiet _ inPre
  · exact .inr (by simpa [blockingTail] using inTail)

/-- The `SET`s of the programs that FG runs for its operations (10 R28). -/
theorem isFgSet_of_expandsTo {c : Cfg} {op : OpId} {prog : List MicroOp} {ps : List Assign}
    (h : expandsTo c op prog = true) (mem : .assign ps ∈ prog) : IsFgSet ps := by
  cases op with
  | construct => exact isFgSet_of_keepsRefresh c.pConstruct_keepsRefresh (eq_of_beq h ▸ mem)
  | host o =>
    simp only [expandsTo] at h
    split at h
    case h_1 =>
      simp only [Bool.or_eq_true, beq_iff_eq] at h
      rcases h with rfl | rfl <;> exact isFgSet_of_keepsRefresh (c.pInit_keepsRefresh _) mem
    case h_2 =>
      simp only [Bool.or_eq_true, Bool.and_eq_true, beq_iff_eq] at h
      rcases h with ⟨-, rfl⟩ | rfl
      · exact isFgSet_of_blocking c.pFullBlk_split mem
      · exact isFgSet_of_blocking c.pPart_split mem
    case h_3 => exact isFgSet_of_keepsRefresh c.pClear_keepsRefresh (eq_of_beq h ▸ mem)
    case h_4 => exact isFgSet_of_keepsRefresh c.pSleep_keepsRefresh (eq_of_beq h ▸ mem)
    case h_5 => exact isFgSet_of_keepsRefresh pReset_keepsRefresh (eq_of_beq h ▸ mem)
    case h_6 => exact isFgSet_of_keepsRefresh pWait_keepsRefresh (eq_of_beq h ▸ mem)
    case h_7 => cases h

/-- What `P_FULL_ASYNC` runs before it raises `UPDATED` (42 R102). -/
def asyncBody (c : Cfg) : List MicroOp :=
  c.rows c.wcfg.writeCur .fb .bg ++ c.rows c.wcfg.writePrev .fb .bg ++ c.group .actFull

theorem asyncBody_quiet (c : Cfg) : (asyncBody c).all MicroOp.quiet = true := by
  simp only [asyncBody, List.all_append, Cfg.rows_quiet, Cfg.group_quiet, Bool.and_self]

/-- BG's `SET`s, and what BG has executed when it stands at the one that raises `UPDATED`. -/
theorem pFullAsync_set {c : Cfg} {pc : Nat} {ps : List Assign} (h : c.pFullAsync[pc]? = some (.assign ps)) :
    (ps = [.updated true] ∧ c.pFullAsync.take pc = asyncBody c) ∨ ps = [.fsm .idle, .complete true] := by
  have split : c.pFullAsync = asyncBody c ++ asyncTail := c.pFullAsync_eq
  have past : (asyncBody c).length ≤ pc := by
    by_contra inside
    rw [split, List.getElem?_append_left (Nat.lt_of_not_le inside)] at h
    cases List.all_eq_true.mp (asyncBody_quiet c) _ (List.mem_of_getElem? h)
  obtain ⟨k, rfl⟩ := Nat.exists_eq_add_of_le past
  rw [split, List.getElem?_append_right past, Nat.add_sub_cancel_left] at h
  match k, h with
  | 0, h => exact .inl ⟨by simpa [asyncTail] using h.symm, by simp [split]⟩
  | 1, h => simp [asyncTail] at h
  | 2, h => exact .inr (by simpa [asyncTail, settleOp] using h.symm)
  | 3, h => simp [asyncTail] at h
  | k + 4, h => simp [asyncTail] at h

theorem State.atOwnSets_of_ownPrograms {s : State} (h : s.ownPrograms = true) : s.AtOwnSets := by
  obtain ⟨fg, bg⟩ := s.ownPrograms_iff.mp h
  refine ⟨fun ps active hop => isFgSet_of_expandsTo (fg active) (List.mem_of_getElem? hop), fun ps active hop => ?_⟩
  rw [State.bgOp, (bg active).2] at hop
  exact (pFullAsync_set hop).imp_left And.left

/-! ### What a step does to the events -/

/-- `UPDATED` and `COMPLETE` are as they were. -/
def KeepsEvents (s t : State) : Prop := t.refresh.updated = s.refresh.updated ∧ t.refresh.complete = s.refresh.complete

theorem KeepsRefresh.events {s t : State} (k : KeepsRefresh s t) : KeepsEvents s t := ⟨k.updated, k.complete⟩

/-- Everything a step can do to the events. -/
inductive EventStep (s t : State) : Prop
  | keeps (k : KeepsEvents s t)
  | updates (turn : s.nextTurn = .bg) (runs : s.executes = some (.uopSet [.updated true])) (active : s.bg.active = true)
      (fetched : s.bgOp = some (.assign [.updated true])) (refresh : t.refresh = { s.refresh with updated := true })
  | completes (turn : s.nextTurn = .bg) (active : s.bg.active = true) (fetched : s.bgOp = some settleOp)
      (refresh : t.refresh = { s.refresh with fsm := .idle, complete := true })
  | clears (runs : s.executes = some .showRefresh) (idle : s.refresh.fsm = .idle) (updated : t.refresh.updated = false)
      (complete : t.refresh.complete = false)

/-- An accepted operation keeps the events, or is a `SHOW` from `Idle` that clears both (41 R90). -/
theorem AcceptEffect.events {s t : State} {i : Instr} (e : AcceptEffect s t i) (runs : s.executes = some i) :
    EventStep s t := by
  cases e with
  | finishes q | starts _ _ _ _ _ q => exact .keeps q.keepsRefresh.events
  | selects _ k => exact .keeps k.events
  | showsBlocking _ _ _ _ refresh | showsPartial _ _ _ refresh =>
    exact .keeps ⟨by rw [refresh], by rw [refresh]⟩
  | showsAsync idle _ _ _ refresh => exact .clears runs idle (by rw [refresh]) (by rw [refresh])

/-- FG's micro-op keeps the events. -/
theorem FgEffect.events {s t : State} {op : MicroOp} (e : FgEffect s t op) (own : ∀ ps, op = .assign ps → IsFgSet ps) :
    KeepsEvents s t := by
  cases e with
  | advances _ q | stays q | aborts q | ends q => exact q.keepsRefresh.events
  | sets ps cfg refresh =>
    rcases own ps rfl with keeps | rfl
    · exact (KeepsRefresh.of_assignAll keeps cfg refresh).events
    · rw [KeepsEvents, refresh]
      exact ⟨rfl, rfl⟩

/-- Every step but block reset is one of `EventStep`. -/
theorem step_events {s t : State} (own : s.AtOwnSets) (hs : step s = .next t) (noReset : s.nextTurn ≠ .blockReset) :
    EventStep s t := by
  cases step_control hs with
  | blockReset turn => exact absurd turn noReset
  | rests _ q => exact .keeps q.keepsRefresh.events
  | accepts _ _ runs _ _ e => exact e.events runs
  | foreground op _ _ active _ fetched e => exact .keeps (e.events fun ps hop => own.fg ps active (hop ▸ fetched))
  | background op turn runs active fetched e =>
    cases e with
    | advances _ q | stays _ q | aborts q | ends q => exact .keeps q.keepsRefresh.events
    | sets ps _ refresh =>
      rcases own.bg ps active fetched with rfl | rfl
      · exact .updates turn runs active fetched refresh
      · exact .completes turn active fetched refresh

/-! ### The phase that BG is in -/

/-- BG raises `UPDATED` during a full refresh, and `COMPLETE` in one whose `UPDATED` is raised (42 R103, R104). -/
theorem State.RefreshInv.at_bgSet {s : State} {ps : List Assign} (h : s.RefreshInv) (active : s.bg.active = true)
    (hop : s.bgOp = some (.assign ps)) :
    s.refresh.fsm = .refreshingFull ∧ (ps = [.fsm .idle, .complete true] → s.refresh.updated = true) := by
  rcases State.bgPhases.sets (h.bgPhase active).2 hop with ⟨rfl, ⟨full, -⟩, -⟩ | ⟨-, ⟨full, updated, -⟩, -⟩
  · exact ⟨full, by simp⟩
  · exact ⟨full, fun _ => updated⟩

/-- BG at the `SET` of `UPDATED` has executed both row loops and the activation, and the activation's frames are in the
trace after the event of a `SHOW` with `OK`. -/
theorem State.sent_at_updates {s : State} (own : s.ownPrograms = true) (sent : s.bgFramesSent)
    (active : s.bg.active = true) (fetched : s.bgOp = some (.assign [.updated true])) :
    s.bg.prog.take s.bg.pc = asyncBody s.cfg
      ∧ ∃ before after, s.trace = before ++ .hostOp (.host 0x4) .ok :: after
        ∧ (frameEvents (s.cfg.group .actFull)).Sublist after := by
  have prog : s.bg.prog = s.cfg.pFullAsync := ((s.ownPrograms_iff.mp own).2 active).2
  have executed : s.bg.prog.take s.bg.pc = asyncBody s.cfg := by
    rw [State.bgOp, prog] at fetched
    rw [prog]
    exact ((pFullAsync_set fetched).resolve_right (by simp)).2
  obtain ⟨before, after, trace, sub⟩ := sent active
  rw [executed, asyncBody, frameEvents_append] at sub
  exact ⟨executed, before, after, trace, (List.sublist_append_right _ _).trans sub⟩

/-- Settles O57: each clause by the cases of `EventStep`. -/
theorem eventLaws : Obligations.EventLaws := by
  refine ⟨fun s t h hs noReset => ?_, fun s t own sent hs noReset low high => ?_⟩
  · cases step_events h.atOwnSets hs noReset with
    | keeps k =>
      obtain ⟨updated, complete⟩ := k
      rw [updated, complete]
      simp +contextual
    | updates turn runs active fetched refresh =>
      rw [refresh]
      refine ⟨fun _ _ => ⟨turn, runs, (h.at_bgSet active fetched).1⟩, ?_, ?_⟩ <;> simp +contextual
    | completes turn active fetched refresh =>
      obtain ⟨full, updated⟩ := h.at_bgSet active fetched
      rw [refresh]
      refine ⟨?_, fun _ _ => ⟨turn, updated rfl, updated rfl, full, rfl⟩, ?_⟩ <;> simp +contextual
    | clears runs idle updated complete =>
      rw [updated, complete]
      exact ⟨nofun, nofun, fun _ => ⟨runs, idle, rfl, rfl⟩⟩
  · cases step_events (State.atOwnSets_of_ownPrograms own) hs noReset with
    | updates _ _ active fetched => exact State.sent_at_updates own sent active fetched
    | keeps k => simp [k.1, low] at high
    | completes _ _ _ refresh => simp [refresh, low] at high
    | clears _ _ updated => simp [updated] at high

end Sys2Proof.Machine
end

section
/-! The operations of the frame buffer (43 R110 to R115): the range check decides between an operation's effect and its
fault; a pixel is one bit of one byte, which no other pixel and no padding bit shares (20 R40, R41). -/

namespace Sys2Proof

theorem pixelBit_lt (x : Nat) : pixelBit x < 8 := by unfold pixelBit; omega

/-- A padding bit is no pixel's: in a row's last byte the pixels stand above the padding (20 R41). -/
theorem Cfg.padding_ne_pixel {c : Cfg} {x y r k : Nat} (hx : x < c.width) (hk : k < c.pad) :
    (r * c.stride + c.stride - 1, k) ≠ (c.pixelAddr x y, pixelBit x) := by
  intro h
  obtain ⟨haddr, hbit⟩ := Prod.mk.inj h
  have column : x / 8 < c.stride := Cfg.column_byte_lt_stride hx
  have last : x / 8 = c.stride - 1 := by
    rw [← Cfg.pixelAddr_mod_stride hx y, ← haddr, Nat.add_sub_assoc (by omega), Nat.mul_add_mod_self_right,
      Nat.mod_eq_of_lt (by omega)]
  have width := c.width_add_pad
  unfold pixelBit at hbit
  omega

end Sys2Proof

namespace Sys2Proof.Machine

/-! ### The range check (43 preamble) -/

theorem State.pixelInRange_iff (s : State) (x y : Nat) :
    s.pixelInRange x y = true ↔ x < s.cfg.width ∧ y < s.cfg.height := by
  simp [State.pixelInRange]

theorem State.byteInRange_iff (s : State) (i : Nat) : s.byteInRange i = true ↔ i < s.cfg.fbSize := decide_eq_true_iff

theorem State.ifInRange_of_inRange {s : State} {inRange : Bool} (h : inRange = true) (op : BitVec 4) (accepted : State) :
    s.ifInRange op inRange accepted = accepted.finish (.host op) .ok := if_pos h

theorem State.ifInRange_of_outOfRange {s : State} {inRange : Bool} (h : ¬ inRange = true) (op : BitVec 4)
    (accepted : State) : s.ifInRange op inRange accepted = s.finishFaulted (.host op) fRange := if_neg h

/-! ### One pixel -/

/-- The bits of a byte after one of them is replaced (43 R110). -/
theorem getLsbD_setBit (b : Byte) {k : Nat} (hk : k < 8) (v : Bool) (j : Nat) :
    (setBit b k v).getLsbD j = if j = k then v else b.getLsbD j := by
  rcases Nat.lt_trichotomy j k with lt | rfl | gt
  · have inside : j < 8 := by omega
    simp [setBit, lt, lt.ne, inside]
  · simp [setBit, hk]
  · by_cases inside : j < 8
    · have above : j - k ≠ 0 := by omega
      simp [setBit, gt.not_gt, gt.ne', inside, above]
    · simp [setBit, gt.ne', BitVec.getLsbD_of_ge b j (by omega), inside]

theorem State.putPixel_pixel (s : State) (x y : Nat) (v : Bool) : (s.putPixel x y v).pixel x y = v := by
  simp [State.pixel, State.putPixel, getLsbD_setBit _ (pixelBit_lt x)]

/-- A written pixel is one bit of one byte: every other bit of the buffer reads as before. -/
theorem State.putPixel_otherBit (s : State) {x y a k : Nat} (v : Bool) (h : (a, k) ≠ (s.cfg.pixelAddr x y, pixelBit x)) :
    ((s.putPixel x y v).memRead a).getLsbD k = (s.memRead a).getLsbD k := by
  by_cases ha : a = s.cfg.pixelAddr x y
  · subst ha
    have hk : k ≠ pixelBit x := fun hk => h (by rw [hk])
    simp [State.putPixel, getLsbD_setBit _ (pixelBit_lt x), hk]
  · rw [State.putPixel, State.memRead_memWrite_other s _ ha]

/-- Settles O22: the written pixel is one bit; another pixel is another bit, and so is padding. -/
theorem setPixel : Obligations.SetPixel := by
  intro s hx hy
  have runs : exec .setPixel s = .next ((s.putPixel s.opX s.opY s.opV).finish (.host 0x9) .ok) :=
    congrArg _ (State.ifInRange_of_inRange ((s.pixelInRange_iff _ _).mpr ⟨hx, hy⟩) _ _)
  refine ⟨_, runs, s.putPixel_pixel _ _ _, fun x y hx' _ hne => s.putPixel_otherBit _ fun same => hne ?_,
    fun r k _ hk => s.putPixel_otherBit _ (Cfg.padding_ne_pixel hx hk), fun a ha => s.memRead_memWrite_other _ ha, rfl⟩
  obtain ⟨haddr, hbit⟩ := Prod.mk.inj same
  obtain ⟨rfl, rfl⟩ := Cfg.pixel_injective hx' hx haddr hbit
  rfl

/-! ### Reading a pixel or a byte -/

theorem toNat_setWidth_ofBool (b : Bool) : ((BitVec.ofBool b).setWidth 32).toNat = if b then 1 else 0 := by
  cases b <;> rfl

/-- Settles O23: in range each of the two writes `RESULT` and finishes. -/
theorem getPixelAndReadByte : Obligations.GetPixelAndReadByte := by
  intro s
  refine ⟨fun hx hy => ?_, fun hi => ?_⟩
  · have runs : exec .getPixel s
        = .next ((s.setResult ((BitVec.ofBool (s.pixel s.opX s.opY)).setWidth 32)).finish (.host 0xA) .ok) :=
      congrArg _ (State.ifInRange_of_inRange ((s.pixelInRange_iff _ _).mpr ⟨hx, hy⟩) _ _)
    exact ⟨_, _, runs, toNat_setWidth_ofBool _, rfl, .of_fb rfl rfl⟩
  · have runs : exec .readByte s = .next ((s.setResult ((s.memRead s.opI).setWidth 32)).finish (.host 0xC) .ok) :=
      congrArg _ (State.ifInRange_of_inRange ((s.byteInRange_iff _).mpr hi) _ _)
    exact ⟨_, _, runs, BitVec.toNat_setWidth_of_le (by decide), rfl, .of_fb rfl rfl⟩

/-! ### Writing bytes -/

/-- Settles O25: one write of the memory. -/
theorem writeByte : Obligations.WriteByte := by
  intro s hi
  have runs : exec .writeByte s = .next ((s.memWrite s.opI s.opB).finish (.host 0xD) .ok) :=
    congrArg _ (State.ifInRange_of_inRange ((s.byteInRange_iff _).mpr hi) _ _)
  exact ⟨_, runs, s.memRead_memWrite_same _ _, fun a ha => s.memRead_memWrite_other _ ha, rfl⟩

/-- A buffer that lies in its bounds lists no address outside them. -/
theorem Memory.read_of_below {n a : Nat} (ha : n ≤ a) : ∀ {m : Memory}, Memory.below n m = true → Memory.read m a = none
  | [], _ => rfl
  | (k, w) :: m, h => by
    simp only [Memory.below, List.all_cons, Bool.and_eq_true, decide_eq_true_eq] at h
    obtain ⟨hk, hm⟩ := h
    have hne : k ≠ a := by omega
    rw [Memory.read, if_neg hne]
    exact Memory.read_of_below ha hm

/-- No address outside the buffer changes, where none holds a written byte. -/
theorem State.memRead_fillFb_outside {s : State} (h : s.fbInv = true) {a : Nat} (ha : s.cfg.fbSize ≤ a) (v : Byte) :
    (s.fillFb v).memRead a = s.memRead a := by
  obtain ⟨-, below⟩ := s.fbInv_iff.mp h
  simp [State.memRead, Memory.read_of_below ha below, Memory.read_of_below ha (Memory.below_filled _ v)]

/-- Settles O24: inside by what a filled buffer holds, outside by what neither buffer lists. -/
theorem fillWritesEveryByte : Obligations.FillWritesEveryByte := fun s =>
  ⟨_, rfl, fun _ ha => s.memRead_fillFb ha _, fun inv _ ha => State.memRead_fillFb_outside inv ha _, rfl⟩

/-! ### Out of range -/

/-- Settles O26: each of the four is an `ifInRange`, and its range check fails. -/
theorem outOfRangeOperationsFault : Obligations.OutOfRangeOperationsFault := by
  intro s i op h
  have runs : exec i s = .next (s.finishFaulted (.host op) fRange) := by
    simp only [List.mem_cons, Prod.mk.injEq, List.not_mem_nil, or_false] at h
    rcases h with ⟨hi, outside⟩ | ⟨hi, outside⟩
    · have out : ¬ s.pixelInRange s.opX s.opY = true := fun inRange => by
        obtain ⟨hx, hy⟩ := (s.pixelInRange_iff _ _).mp inRange
        exact outside.elim hx.not_ge hy.not_ge
      rcases hi with ⟨rfl, rfl⟩ | ⟨rfl, rfl⟩ <;> exact congrArg _ (State.ifInRange_of_outOfRange out _ _)
    · have out : ¬ s.byteInRange s.opI = true := fun inRange => ((s.byteInRange_iff _).mp inRange).not_ge outside
      rcases hi with ⟨rfl, rfl⟩ | ⟨rfl, rfl⟩ <;> exact congrArg _ (State.ifInRange_of_outOfRange out _ _)
  exact next_sameBytes runs rfl rfl

end Sys2Proof.Machine
end

section
/-! The only writers of the frame buffer and of `RESULT` (43 R116, 10 R18): which instructions write them, and that
nothing else of a step does. -/

namespace Sys2Proof.Machine

/-- The instructions that write a byte of the frame buffer (43 R110, R113, R115; 40 R80). -/
def WritesBuffer (i : Instr) : Prop := i = .setPixel ∨ i = .fill ∨ i = .writeByte ∨ i = .uopHavocFb

/-- The instructions that write `RESULT` (43 R111, R114). -/
def WritesResult (i : Instr) : Prop := i = .getPixel ∨ i = .readByte

/-- The frame buffer and `RESULT` are as before. -/
structure SameStores (s t : State) : Prop where
  fb : t.fb = s.fb
  fbEra : t.fbEra = s.fbEra
  result : t.regs.result = s.regs.result

/-- How an instruction leaves the frame buffer and `RESULT`. -/
structure StoreEffect (s t : State) (i : Instr) : Prop where
  buffer : WritesBuffer i ∨ SameBytes s t
  result : WritesResult i ∨ t.regs.result = s.regs.result

theorem SameStores.trans {s r t : State} (h : SameStores s r) (h' : SameStores r t) : SameStores s t :=
  ⟨h'.fb.trans h.fb, h'.fbEra.trans h.fbEra, h'.result.trans h.result⟩

theorem SameStores.bytes {s t : State} (h : SameStores s t) : SameBytes s t := .of_fb h.fb h.fbEra

theorem StoreEffect.of_same {s t : State} {i : Instr} (h : SameStores s t) : StoreEffect s t i :=
  ⟨.inr h.bytes, .inr h.result⟩

theorem StoreEffect.of_agree {s r t : State} {i : Instr} (h : StoreEffect r t i) (e : SameStores s r) :
    StoreEffect s t i :=
  ⟨h.buffer.imp_right fun bytes a => (bytes a).trans (e.bytes a), h.result.imp_right fun result => result.trans e.result⟩

/-! ### The shared operations -/

theorem State.requireIdle_sameStores {s t : State} (op : BitVec 4) (h : SameStores s t) :
    SameStores s (s.requireIdle op t) := by
  unfold State.requireIdle
  split
  · exact ⟨rfl, rfl, rfl⟩
  · exact h

theorem State.emit_sameStores (s : State) (k : FrameKind) (bs : List Byte) (bi : Bool) :
    SameStores s (s.emit k bs bi) := by
  unfold State.emit
  split <;> exact ⟨by simp, by simp, by simp⟩

theorem State.emitOp_sameStores (s : State) (k : FrameKind) (bs : List Byte) (bi : Bool) :
    SameStores s (s.emitOp k bs bi) := by
  rcases s.emitOp_cases k bs bi with ⟨-, e⟩ | ⟨-, e⟩ <;> rw [e] <;> exact ⟨by simp, by simp, by simp⟩

/-- An operation of the frame buffer writes what its accepted effect writes, and nothing where it is out of range. -/
theorem State.ifInRange_storeEffect {s t : State} {i : Instr} (op : BitVec 4) (inRange : Bool) (h : StoreEffect s t i) :
    StoreEffect s (s.ifInRange op inRange t) i := by
  unfold State.ifInRange
  split
  · exact ⟨h.buffer, h.result⟩
  · exact .of_same ⟨rfl, rfl, rfl⟩

/-! ### `exec` -/

theorem execShow_sameStores {s t : State} (he : execShow s = .next t) : SameStores s t := by
  cases he
  split
  · exact ⟨rfl, rfl, rfl⟩
  · split
    · split <;> exact ⟨rfl, rfl, rfl⟩
    · exact ⟨rfl, rfl, rfl⟩

/-- What each instruction writes of the frame buffer and of `RESULT`, from every state. -/
theorem exec_storeEffect {i : Instr} {s t : State} (he : exec i s = .next t) : StoreEffect s t i := by
  cases i with
  | setPixel | writeByte => cases he; exact State.ifInRange_storeEffect _ _ ⟨.inl (by simp [WritesBuffer]), .inr rfl⟩
  | getPixel | readByte =>
    cases he
    exact State.ifInRange_storeEffect _ _ ⟨.inr fun _ => rfl, .inl (by simp [WritesResult])⟩
  | fill => cases he; exact ⟨.inl (by simp [WritesBuffer]), .inr rfl⟩
  | uopHavocFb => cases he; exact ⟨.inl (by simp [WritesBuffer]), .inr (by simp)⟩
  | initFull | selectFull | clear | sleep =>
    cases he
    exact .of_same (State.requireIdle_sameStores _ ⟨rfl, rfl, rfl⟩)
  | selectPartial =>
    cases he
    refine .of_same (State.requireIdle_sameStores _ ?_)
    split <;> exact ⟨rfl, rfl, rfl⟩
  | showRefresh => exact .of_same (execShow_sameStores he)
  | reset | waitReady | reservedOp0 | reservedOpE | reservedOpF | reservedHighBits =>
    cases he
    exact .of_same ⟨rfl, rfl, rfl⟩
  | uopCmd | uopData => cases he; exact .of_same (s.emitOp_sameStores _ _ _)
  | uopRow src r =>
    cases src with
    | blank => cases he; exact .of_same (s.emitOp_sameStores _ _ _)
    | fb =>
      simp only [exec, execUopRow] at he
      split at he
      · cases he; exact .of_same (s.emitOp_sameStores _ _ _)
      · cases he
  | uopEnd | uopRstp => cases he; exact .of_same ⟨by simp, by simp, by simp⟩
  | uopWaitr | uopWaitry | uopYield =>
    cases he
    refine .of_same ?_
    split <;> exact ⟨by simp, by simp, by simp⟩
  | uopSet ps =>
    cases he
    obtain ⟨-, regs, -, -, fb, fbEra, -⟩ := s.assignAll_frame ps
    exact .of_same ⟨by simp [fb], by simp [fbEra], by simp [regs]⟩
  | wireCommandFrame | wireDataFrame => cases he; exact .of_same (s.emit_sameStores _ _ _)
  | wireSwreset | wireDem | wireBorderFull | wireBorderPartial | wireDucPartial | wireWindow | wireCursor
  | wireActFull | wireActPartial | wireSleep | wireForce | wireWriteCur | wireWritePrev =>
    cases he
    exact .of_same ⟨by simp, by simp, by simp⟩

/-! ### The host's reads and writes of the window -/

theorem State.hostRead_sameStores (s : State) (off : Word) : SameStores s (s.hostRead off) := by
  have h : SameStores s (s.afterRead off) := by
    unfold State.afterRead
    split
    · exact ⟨by simp, by simp, by simp⟩
    · split <;> exact ⟨rfl, rfl, rfl⟩
  exact ⟨h.fb, h.fbEra, h.result⟩

theorem State.hostWrite_sameStores (s : State) (off v : Word) : SameStores s (s.hostWrite off v) := by
  unfold State.hostWrite
  split
  · exact ⟨rfl, rfl, rfl⟩
  · split
    · exact ⟨rfl, rfl, rfl⟩
    · split <;> exact ⟨rfl, rfl, rfl⟩

theorem State.pollOnce_sameStores (s : State) (bit : Nat) (want : Bool) : SameStores s (s.pollOnce bit want) := by
  obtain ⟨fb, fbEra, result⟩ := s.hostRead_sameStores offStatus
  unfold State.pollOnce
  split <;> exact ⟨fb, fbEra, result⟩

/-! ### The machine -/

theorem State.afterTurn_sameStores (s : State) : SameStores s s.afterTurn := ⟨by simp, by simp, by simp⟩

/-- A step of the host executes the operation of an accepted `CMD` write, or leaves the frame buffer and `RESULT` alone. -/
theorem hostStep_stores {s t : State} (turn : s.nextTurn = .host) (h : hostStep s.afterTurn = .next t) :
    SameStores s t ∨ ∃ i, s.executes = some i ∧ StoreEffect s t i := by
  have taken := s.afterTurn_sameStores
  have popped : SameStores s s.afterTurn.popAccess := ⟨taken.fb, taken.fbEra, taken.result⟩
  rcases hostStep_next h with rfl | ⟨_, off, _, -, rfl⟩ | ⟨bit, want, _, -, rfl⟩ | ⟨_, off, v, _, -, -, rfl⟩
    | ⟨_, v, rest, hhost, accept, he⟩
  · exact .inl taken
  · exact .inl (popped.trans (s.afterTurn.popAccess.hostRead_sameStores off))
  · exact .inl (taken.trans (s.afterTurn.pollOnce_sameStores bit want))
  · exact .inl (popped.trans (s.afterTurn.popAccess.hostWrite_sameStores off v))
  · rw [s.afterTurn_env.1] at hhost
    rw [s.afterTurn_enabled.1] at accept
    have runs : s.executes = some (decodeHostWord v) := by simp [State.executes, turn, hhost, accept]
    exact .inr ⟨_, runs, (exec_storeEffect he).of_agree popped⟩

/-- A context at its turn executes its current micro-op where it is enabled, and does nothing otherwise. -/
theorem contextStep_stores {s t : State} {enabled : Bool} {m : Option MicroOp} {c : Ctx}
    (h : (if enabled then runMicroOp m c s.afterTurn else .next s.afterTurn) = .next t)
    (runs : s.executes = if enabled then m.map MicroOp.toInstr else none) :
    SameStores s t ∨ ∃ i, s.executes = some i ∧ StoreEffect s t i := by
  cases enabled with
  | false => cases h; exact .inl s.afterTurn_sameStores
  | true =>
    obtain ⟨op, rfl, he⟩ := runMicroOp_next h
    have taken : SameStores s (s.afterTurn.inCtx c) := ⟨by simp, by simp, by simp⟩
    exact .inr ⟨_, runs, (exec_storeEffect he).of_agree taken⟩

/-- A step besides block reset writes the frame buffer and `RESULT` by the instruction it executes, if at all. -/
theorem step_stores {s t : State} (hs : step s = .next t) (noReset : s.nextTurn ≠ .blockReset) :
    SameStores s t ∨ ∃ i, s.executes = some i ∧ StoreEffect s t i := by
  obtain ⟨wf, valid, agent⟩ := step_next hs
  have defined : s.defined = true := by simp [State.defined, wf, valid]
  cases turn : s.nextTurn with
  | host => rw [turn] at agent; exact hostStep_stores turn agent
  | fg => rw [step_fg defined turn] at hs; exact contextStep_stores hs (by simp [State.executes, turn])
  | bg => rw [step_bg defined turn] at hs; exact contextStep_stores hs (by simp [State.executes, turn])
  | panelRise | panelFall | panelNone =>
    rw [turn] at agent
    cases agent
    obtain ⟨fb, fbEra, result⟩ := s.afterTurn_sameStores
    exact .inl ⟨fb, fbEra, result⟩
  | blockReset => exact absurd turn noReset

/-- Settles O46: what changed was written by the instruction executed, which is then one of the writers. -/
theorem onlyWritersOfBufferAndResult : Obligations.OnlyWritersOfBufferAndResult := by
  intro s t hs noReset
  rcases step_stores hs noReset with same | ⟨i, runs, effect⟩
  · exact ⟨fun a changed => absurd (same.bytes a) changed, fun changed => absurd same.result changed⟩
  · simp only [runs, Option.some.injEq]
    exact ⟨fun a changed => effect.buffer.resolve_right fun bytes => changed (bytes a),
      fun changed => effect.result.resolve_right changed⟩

end Sys2Proof.Machine
end

section
/-! The panel's moves (60 R124): `rise` and `fall` where they are possible, and `none` and the others where they are not. -/

namespace Sys2Proof.Machine

theorem Panel.rise_of_pending {p : Panel} (h : p.ppend = true) : p.rise = { pbusy := true, ppend := false } := if_pos h

theorem Panel.rise_of_settled {p : Panel} (h : p.ppend = false) : p.rise = p := if_neg (by simp [h])

theorem Panel.fall_of_busy {p : Panel} (busy : p.pbusy = true) (settled : p.ppend = false) :
    p.fall = { pbusy := false, ppend := false } := by
  simp [Panel.fall, busy, settled]

theorem Panel.fall_of_idle_or_pending {p : Panel} (h : p.pbusy = false ∨ p.ppend = true) : p.fall = p :=
  if_neg (by rcases h with h | h <;> simp [h])

/-- A move that leaves the panel as it was leaves the state as it was. -/
theorem State.panelMove_of_fixed {s : State} {move : Panel → Panel} (h : move s.panel = s.panel) : s.panelMove move = s := by
  rw [State.panelMove, h]

theorem step_of_panelRise {s : State} (hd : s.defined = true) (turn : s.nextTurn = .panelRise) :
    step s = .next (s.afterTurn.panelMove Panel.rise) := by
  rw [step_of_defined hd, turn, stepAs]

theorem step_of_panelFall {s : State} (hd : s.defined = true) (turn : s.nextTurn = .panelFall) :
    step s = .next (s.afterTurn.panelMove Panel.fall) := by
  rw [step_of_defined hd, turn, stepAs]

/-- Settles O13: a possible move writes the panel, and an impossible one leaves it as it was. -/
theorem panelMoves : Obligations.PanelMoves := by
  intro s hd
  have same : s.afterTurn.panel = s.panel := s.afterTurn_panel
  refine ⟨fun turn pending => ?_, fun turn settled => ?_, fun turn busy settled => ?_, fun turn blocked => ?_, fun turn => ?_⟩
  · rw [step_of_panelRise hd turn, State.panelMove, same, Panel.rise_of_pending pending]
  · rw [step_of_panelRise hd turn, State.panelMove_of_fixed (Panel.rise_of_settled (by rwa [same]))]
  · rw [step_of_panelFall hd turn, State.panelMove, same, Panel.fall_of_busy busy settled]
  · rw [step_of_panelFall hd turn, State.panelMove_of_fixed (Panel.fall_of_idle_or_pending (by rwa [same]))]
  · rw [step_of_defined hd, turn, stepAs]

end Sys2Proof.Machine
end

section
/-! The illegal `CMD` words (60 R121): which words decode to a reserved row, by their reserved bits and their `OP`, and
that each such row only faults. -/

namespace Sys2Proof

/-- The `OP` of a reserved row, and nothing for every other row (60 R121). -/
def Instr.reservedOp : Instr → Option (BitVec 4)
  | .reservedOp0 => some 0x0
  | .reservedOpE => some 0xE
  | .reservedOpF => some 0xF
  | .reservedHighBits _ op => some op
  | _ => none

/-- A `CMD` word is illegal: one of its bits 31 to 4 is 1, or its `OP` is 0x0, 0xE or 0xF (60 R121). -/
def IllegalWord (w : Word) : Prop := w.toNat / 16 ≠ 0 ∨ w.toNat % 16 = 0 ∨ w.toNat % 16 = 14 ∨ w.toNat % 16 = 15

theorem Instr.reservedOp_isSome_iff (i : Instr) :
    (∃ op, i.reservedOp = some op) ↔
      i ∈ [.reservedOp0, .reservedOpE, .reservedOpF] ∨ ∃ hi op, i = .reservedHighBits hi op := by
  cases i <;> simp [Instr.reservedOp]

/-- A word's `OP` is its remainder by 16. -/
theorem cmdOp_eq (w : Word) : w.extractLsb' 0 4 = BitVec.ofNat 4 (w.toNat % 16) :=
  BitVec.eq_of_toNat_eq (by simp)

/-- A word's reserved bits are zero exactly when nothing is left of it above `OP`. -/
theorem reservedBits_eq_zero_iff (w : Word) : w.extractLsb' 4 28 = 0#28 ↔ w.toNat / 16 = 0 := by
  have bound : w.toNat < 4294967296 := w.isLt
  rw [← BitVec.toNat_inj, BitVec.extractLsb'_toNat, Nat.shiftRight_eq_div_pow, BitVec.toNat_ofNat]
  omega

/-- With the reserved bits zero, three of the sixteen values of `OP` are reserved (60 R121). -/
theorem reservedOp_decodeHostWord_of_low (op : BitVec 4) :
    (decodeHostWord (0#28 ++ op)).reservedOp
      = if op.toNat = 0 ∨ op.toNat = 14 ∨ op.toNat = 15 then some op else none := by
  revert op
  decide

/-- A word decodes to a reserved row exactly when it is illegal, and the row names the word's `OP`. -/
theorem reservedOp_decodeHostWord_iff (w : Word) (op : BitVec 4) :
    (decodeHostWord w).reservedOp = some op ↔ IllegalWord w ∧ op = BitVec.ofNat 4 (w.toNat % 16) := by
  have parts : w.extractLsb' 4 28 ++ w.extractLsb' 0 4 = w := BitVec.extractLsb'_append_extractLsb'
  by_cases high : w.extractLsb' 4 28 = 0#28
  · have low : (BitVec.ofNat 4 (w.toNat % 16)).toNat = w.toNat % 16 := by simp
    have illegal : IllegalWord w ↔ w.toNat % 16 = 0 ∨ w.toNat % 16 = 14 ∨ w.toNat % 16 = 15 :=
      or_iff_right (not_not.mpr ((reservedBits_eq_zero_iff w).mp high))
    rw [illegal, ← parts, high, reservedOp_decodeHostWord_of_low, ← high, parts, cmdOp_eq, low]
    simp [eq_comm]
  · have illegal : IllegalWord w := .inl (mt (reservedBits_eq_zero_iff w).mpr high)
    rw [← parts, decodeHostWord_of_high high, parts, cmdOp_eq]
    simp [Instr.reservedOp, illegal, eq_comm]

end Sys2Proof

namespace Sys2Proof.Machine

/-- A reserved row only faults (60 R121). -/
theorem exec_of_reservedOp {i : Instr} {op : BitVec 4} (h : i.reservedOp = some op) (s : State) :
    exec i s = .next (s.illegalCmd op) := by
  cases i with
  | reservedOp0 | reservedOpE | reservedOpF | reservedHighBits => cases h; rfl
  | _ => cases h

/-- Settles O27: an illegal word decodes to a reserved row, which `exec_of_reservedOp` and `step_cmdWrite` execute. -/
theorem reservedCommandsFault : Obligations.ReservedCommandsFault := by
  have faults {i : Instr} {op : BitVec 4} (h : i.reservedOp = some op) (s : State) :=
    next_sameBytes (exec_of_reservedOp h s) (s := s) rfl rfl
  refine ⟨fun s => ⟨faults rfl s, faults rfl s, faults rfl s, fun _ _ => faults rfl s⟩, fun w => ?_⟩
  have decoded (illegal : IllegalWord w) := (reservedOp_decodeHostWord_iff w _).mpr ⟨illegal, rfl⟩
  refine ⟨?_, fun illegal => faults (decoded illegal), fun illegal s rest hd turn hhost idle yielded => ?_⟩
  · rw [← Instr.reservedOp_isSome_iff]
    exact ⟨fun illegal => ⟨_, decoded illegal⟩, fun ⟨op, h⟩ => ((reservedOp_decodeHostWord_iff w op).mp h).1⟩
  · have hstep := step_cmdWrite hd turn hhost
    rw [if_pos (s.accept_iff.mpr ⟨idle, yielded⟩), exec_of_reservedOp (decoded illegal),
      State.afterTurn_popAccess_eq hhost] at hstep
    exact next_sameBytes hstep rfl rfl

end Sys2Proof.Machine
end

section
/-! No step stops the machine where the programs are in order and nothing is refused (60 R118): the only stops of an
agent's step are a pc past its program and a row that does not exist (log 13). -/

namespace Sys2Proof.Machine

/-- The operation of a `CMD` word completes, as it is no row of the frame buffer. -/
theorem exec_decodeHostWord_completes (w : Word) (s : State) : ∃ t, exec (decodeHostWord w) s = .next t := by
  rcases exec_cases (decodeHostWord w) s with completes | ⟨r, row, -⟩
  · exact completes
  · have space := decodeHostWord_space w
    rw [row] at space
    cases space

/-- A well-formed micro-op completes: its row exists (40 R71). -/
theorem exec_microOp_completes {op : MicroOp} {s : State} (h : op.wellFormed s.cfg = true) :
    ∃ t, exec op.toInstr s = .next t := by
  rcases exec_cases op.toInstr s with completes | ⟨r, row, -⟩
  · exact completes
  · cases op with
    | row src n =>
      cases row
      exact ⟨_, exec_row_fb (decide_eq_true_iff.mp h)⟩
    | _ => cases row

/-- A context whose program is in order has a current micro-op, and that completes (10 R30). -/
theorem runMicroOp_completes {prog : List MicroOp} {pc : Nat} {c : Ctx} {s : State}
    (h : programInv s.cfg prog pc = true) : ∃ t, runMicroOp prog[pc]? c s = .next t := by
  obtain ⟨inside, -, wf⟩ := programInv_iff.mp h
  rw [List.getElem?_eq_getElem inside]
  exact exec_microOp_completes (List.all_eq_true.mp wf _ (List.getElem_mem inside))

/-- An agent's step completes where its agent is not enabled, and where what it runs completes. -/
theorem ite_next_completes {enabled : Bool} {r : Result} {s : State} (h : enabled = true → ∃ t, r = .next t) :
    ∃ t, (if enabled then r else .next s) = .next t := by
  cases enabled with
  | true => exact h rfl
  | false => exact ⟨s, rfl⟩

theorem hostStep_completes (s : State) : ∃ t, hostStep s = .next t := by
  unfold hostStep
  split
  · exact ⟨_, rfl⟩
  · exact ⟨_, rfl⟩
  · exact ⟨_, rfl⟩
  · split
    · exact ite_next_completes fun _ => exec_decodeHostWord_completes ..
    · exact ⟨_, rfl⟩

theorem fgStep_completes {s : State} (h : s.contextInv = true) : ∃ t, fgStep s = .next t := by
  obtain ⟨inOrder, -, -⟩ := s.contextInv_iff.mp h
  exact ite_next_completes fun enabled => runMicroOp_completes (inOrder (s.fgEnabled_iff.mp enabled).1)

theorem bgStep_completes {s : State} (h : s.contextInv = true) : ∃ t, bgStep s = .next t := by
  obtain ⟨-, inOrder, -⟩ := s.contextInv_iff.mp h
  exact ite_next_completes fun enabled => runMicroOp_completes (inOrder (s.bgEnabled_iff.mp enabled).1)

theorem stepAs_completes (turn : Turn) {s : State} (h : s.contextInv = true) : ∃ t, stepAs turn s = .next t := by
  cases turn with
  | host => exact hostStep_completes s
  | fg => exact fgStep_completes h
  | bg => exact bgStep_completes h
  | panelRise | panelFall | panelNone | blockReset => exact ⟨_, rfl⟩

/-- Settles O55: nothing is refused, and taking the turn leaves the programs in order. -/
theorem everyStepCompletes : Obligations.EveryStepCompletes := by
  intro s h wf valid
  have inOrder : s.afterTurn.contextInv = true := by simpa [State.contextInv] using h
  rw [step_of_defined (by rw [State.defined, wf, valid]; rfl)]
  exact stepAs_completes s.nextTurn inOrder

end Sys2Proof.Machine
end

section
/-! Block reset at its turn, from every state (70 R138): the reset table, the three draws, and the outside kept. -/

namespace Sys2Proof.Machine

/-- A draw takes an answer and leaves the host's program and its last read value. -/
theorem Env.afterAnswer_keeps_host (e : Env) : e.afterAnswer.host = e.host ∧ e.afterAnswer.rdata = e.rdata := by
  unfold Env.afterAnswer
  split <;> exact ⟨rfl, rfl⟩

/-- The draws of block reset leave the host as it was (log 15). -/
theorem State.blockReset_keeps_host (s : State) :
    s.blockReset.env.host = s.env.host ∧ s.blockReset.env.rdata = s.env.rdata := by
  have drawn : s.blockReset.env = s.env.afterAnswer.afterAnswer.afterAnswer := rfl
  rw [drawn]
  constructor <;> simp only [Env.afterAnswer_keeps_host]

/-- Block reset forgets every byte that was written: what is read next is of a new draw of the buffer (log 4). -/
theorem State.blockReset_memRead (s : State) (a : Nat) : s.blockReset.memRead a = Config.fbByte (s.fbEra + 1) a := rfl

theorem step_of_blockReset {s : State} (hd : s.defined = true) (turn : s.nextTurn = .blockReset) :
    step s = .next s.afterTurn.blockReset := by
  rw [step_of_defined hd, turn]
  rfl

end Sys2Proof.Machine

namespace Sys2Proof
open Machine

/-- Settles O15: the step is block reset after the turn is taken, which leaves the table's values; neither the turn nor
the three draws touch the configuration or the host. (In `Machine` the name is that of the model's step.) -/
theorem blockResetStep : Obligations.BlockResetStep := by
  intro s hd turn
  obtain ⟨turnHost, turnRdata, -⟩ := s.afterTurn_env
  obtain ⟨resetHost, resetRdata⟩ := s.afterTurn.blockReset_keeps_host
  have bytes (a : Nat) : s.afterTurn.blockReset.memRead a = Config.fbByte (s.fbEra + 1) a := by
    rw [State.blockReset_memRead, State.afterTurn_fbEra]
  exact ⟨s.afterTurn.blockReset, step_of_blockReset hd turn, State.atReset_resetTable .., s.afterTurn_cfg,
    rfl, rfl, rfl, bytes, resetHost.trans turnHost, resetRdata.trans turnRdata⟩

end Sys2Proof
end
